-- ==== Sys2Proof/Word.lean ====
section
/-! DEFINITION. The data units of the spec: a Byte (00_scope.md R13), a Word (R14), a 12-bit address field and a
register selector (10_state.md R21). Bit vectors wrap as R13 asks; a register selector is a tag, never computed with. -/

namespace Sys2Proof

/-- "8-bit unsigned value; arithmetic wraps modulo 256" (R13). -/
abbrev Byte := BitVec 8

/-- "16-bit unsigned value" (R14). -/
abbrev Word := BitVec 16

/-- The 12-bit address field `nnn` of an instruction word (30_encoding.md R92). -/
abbrev Field12 := BitVec 12

/-- "An enumerated tag for one of sixteen general-purpose registers (v0..vf)" (R21). -/
abbrev Reg := Fin 16

end Sys2Proof
end

