-- ==== Sys2Proof/Syntax.lean ====
section
/-! DEFINITION. The instructions: one constructor per row of spec/opcode_table.json, under the spec's operator name
(00_scope.md R18), carrying the operand payload of its shape (30_encoding.md R91, R92). -/

namespace Sys2Proof

/-- A decoded instruction: operator and operands (30_encoding.md R91, R93). -/
inductive Instr where
  -- 44_display.md, 40_control_flow.md: shape N, and shape A for the jumps
  | cls
  | ret
  | jmp (nnn : Field12)
  | call (nnn : Field12)
  -- 41_skips.md
  | se_v_b (x : Reg) (kk : Byte)
  | sne_v_b (x : Reg) (kk : Byte)
  | se_v_v (x y : Reg)
  -- 42_alu.md
  | ld_v_b (x : Reg) (kk : Byte)
  | add_v_b (x : Reg) (kk : Byte)
  | ld_v_v (x y : Reg)
  | or_v_v (x y : Reg)
  | and_v_v (x y : Reg)
  | xor_v_v (x y : Reg)
  | add_v_v (x y : Reg)
  | sub_v_v (x y : Reg)
  | shr_v (x : Reg)
  | subn_v_v (x y : Reg)
  | shl_v (x : Reg)
  | sne_v_v (x y : Reg)
  | ld_i (nnn : Field12)
  | jmp_v0 (nnn : Field12)
  -- 43_random.md
  | rnd_v_b (x : Reg) (kk : Byte)
  /-- 44_display.md R211. The height is a natural so that the check `n > MAX_SPRITE_H` of R211 is in the model; no word
  decodes to a height above 15 (30_encoding.md R103). Log entry 9. -/
  | drw (x y : Reg) (n : Nat)
  | skp_v (x : Reg)
  | sknp_v (x : Reg)
  -- 45_keypad_timer_misc.md, and add_i_v of 42_alu.md
  | ld_v_dt (x : Reg)
  | ld_v_k (x : Reg)
  | ld_dt_v (x : Reg)
  | ld_st_v (x : Reg)
  | add_i_v (x : Reg)
  | ld_f_v (x : Reg)
  | ld_b_v (x : Reg)
  | ld_mem_v (x : Reg)
  | ld_v_mem (x : Reg)
  deriving DecidableEq, Repr

end Sys2Proof
end

