-- ==== Sys2Proof/WellFormed.lean ====
section
/-! DEFINITION. Which terms of Instr an instruction word can carry. The operand types already hold every field but the
sprite height within its width (30_encoding.md R92). -/

namespace Sys2Proof

/-- The sprite height is a nibble: `n = w[3:0]`, "a 4-bit count (0..15)" (30_encoding.md R92, R103). -/
def Instr.wellFormed : Instr → Bool
  | .drw _ _ n => decide (n ≤ 15)
  | .cls | .ret | .jmp _ | .call _ | .se_v_b _ _ | .sne_v_b _ _ | .se_v_v _ _ | .ld_v_b _ _ | .add_v_b _ _
  | .ld_v_v _ _ | .or_v_v _ _ | .and_v_v _ _ | .xor_v_v _ _ | .add_v_v _ _ | .sub_v_v _ _ | .shr_v _
  | .subn_v_v _ _ | .shl_v _ | .sne_v_v _ _ | .ld_i _ | .jmp_v0 _ | .rnd_v_b _ _ | .skp_v _ | .sknp_v _
  | .ld_v_dt _ | .ld_v_k _ | .ld_dt_v _ | .ld_st_v _ | .add_i_v _ | .ld_f_v _ | .ld_b_v _ | .ld_mem_v _
  | .ld_v_mem _ => true

end Sys2Proof
end

