-- ==== Sys2Proof/Decode.lean ====
section
/-! DEFINITION. From bytes to an instruction and back: the byte order of a word (20_memory.md R63), the fields of a word
(30_encoding.md R92), decode (R93) and encode (R95). -/

namespace Sys2Proof

/-- `word(hi, lo) = hi * 256 + lo`: "constructed from two bytes, high byte first" (00_scope.md R14, 20_memory.md R63). -/
def word (hi lo : Byte) : Word := BitVec.ofNat 16 (hi.toNat * 256 + lo.toNat)

/-- Bits 15:8 of a word: the byte at the lower address (20_memory.md R63). -/
def highByte (w : Word) : Byte := BitVec.ofNat 8 (w.toNat / 256)

/-- Bits 7:0 of a word: the byte at the higher address (20_memory.md R63). -/
def lowByte (w : Word) : Byte := BitVec.ofNat 8 (w.toNat % 256)

/-- `w[hi:lo]` of 00_scope.md section 5: bits hi down to lo, zero-extended, as a natural number. -/
def bits (w : Word) (hi lo : Nat) : Nat := w.toNat / 2 ^ lo % 2 ^ (hi - lo + 1)

/-- The register a selector field names: all sixteen, VF included (30_encoding.md R92). -/
def regOf (n : Nat) : Reg := Fin.ofNat 16 n

def fieldX (w : Word) : Reg := regOf (bits w 11 8)
def fieldY (w : Word) : Reg := regOf (bits w 7 4)
def fieldN (w : Word) : Nat := bits w 3 0
def fieldKK (w : Word) : Byte := BitVec.ofNat 8 (bits w 7 0)
def fieldNNN (w : Word) : Field12 := BitVec.ofNat 12 (bits w 11 0)

/-- Group 0 (30_encoding.md R96): the whole word is inspected; `SYS nnn` is undecodable. -/
def decodeGroup0 (w : Word) : Option Instr :=
  if w = 0x00E0#16 then some .cls else if w = 0x00EE#16 then some .ret else none

/-- Group 8 (30_encoding.md R93, R98, R99): the low nibble selects; bits 7:4 of the two shifts are don't-care. -/
def decodeGroup8 (w : Word) : Option Instr :=
  match fieldN w with
  | 0x0 => some (.ld_v_v (fieldX w) (fieldY w))
  | 0x1 => some (.or_v_v (fieldX w) (fieldY w))
  | 0x2 => some (.and_v_v (fieldX w) (fieldY w))
  | 0x3 => some (.xor_v_v (fieldX w) (fieldY w))
  | 0x4 => some (.add_v_v (fieldX w) (fieldY w))
  | 0x5 => some (.sub_v_v (fieldX w) (fieldY w))
  | 0x6 => some (.shr_v (fieldX w))
  | 0x7 => some (.subn_v_v (fieldX w) (fieldY w))
  | 0xE => some (.shl_v (fieldX w))
  | _ => none

/-- Group E (30_encoding.md R99): the low byte selects. -/
def decodeGroupE (w : Word) : Option Instr :=
  match bits w 7 0 with
  | 0x9E => some (.skp_v (fieldX w))
  | 0xA1 => some (.sknp_v (fieldX w))
  | _ => none

/-- Group F (30_encoding.md R99): the low byte selects. -/
def decodeGroupF (w : Word) : Option Instr :=
  match bits w 7 0 with
  | 0x07 => some (.ld_v_dt (fieldX w))
  | 0x0A => some (.ld_v_k (fieldX w))
  | 0x15 => some (.ld_dt_v (fieldX w))
  | 0x18 => some (.ld_st_v (fieldX w))
  | 0x1E => some (.add_i_v (fieldX w))
  | 0x29 => some (.ld_f_v (fieldX w))
  | 0x33 => some (.ld_b_v (fieldX w))
  | 0x55 => some (.ld_mem_v (fieldX w))
  | 0x65 => some (.ld_v_mem (fieldX w))
  | _ => none

/-- 30_encoding.md R93, case for case; `none` is the spec's NONE, an undecodable word (R94, R100). The bit patterns are
the spec's from general knowledge (K1): UNVERIFIED, log entries 6 and 11. -/
def decode (w : Word) : Option Instr :=
  match bits w 15 12 with
  | 0x0 => decodeGroup0 w
  | 0x1 => some (.jmp (fieldNNN w))
  | 0x2 => some (.call (fieldNNN w))
  | 0x3 => some (.se_v_b (fieldX w) (fieldKK w))
  | 0x4 => some (.sne_v_b (fieldX w) (fieldKK w))
  | 0x5 => if fieldN w = 0 then some (.se_v_v (fieldX w) (fieldY w)) else none
  | 0x6 => some (.ld_v_b (fieldX w) (fieldKK w))
  | 0x7 => some (.add_v_b (fieldX w) (fieldKK w))
  | 0x8 => decodeGroup8 w
  | 0x9 => if fieldN w = 0 then some (.sne_v_v (fieldX w) (fieldY w)) else none
  | 0xA => some (.ld_i (fieldNNN w))
  | 0xB => some (.jmp_v0 (fieldNNN w))
  | 0xC => some (.rnd_v_b (fieldX w) (fieldKK w))
  | 0xD => some (.drw (fieldX w) (fieldY w) (fieldN w))
  | 0xE => decodeGroupE w
  | 0xF => decodeGroupF w
  | _ => none

/-- Why a byte sequence carries no instruction. -/
inductive DecodeError where
  /-- fewer than the two bytes of an instruction (30_encoding.md R90) -/
  | truncated
  /-- a word that R93 assigns to no operator (30_encoding.md R100); the step cycle records `invalid_instruction` -/
  | undecodable (w : Word)
  deriving DecidableEq, Repr

/-- Decode the instruction at the head of a byte sequence, with the bytes after it: two bytes, the first is bits 15:8
(30_encoding.md R90). Total on every sequence (R94). -/
def decodeBytes : List Byte → Except DecodeError (Instr × List Byte)
  | hi :: lo :: rest =>
    match decode (word hi lo) with
    | some i => .ok (i, rest)
    | none => .error (.undecodable (word hi lo))
  | _ => .error .truncated

/-- The instruction the decoder reads from the table-numbered bits `w` of an instruction of `nbits` bits: the word is
laid out big-endian and given to `decodeBytes`. Every instruction is one 16-bit word (30_encoding.md R90, R102), so a
longer one does not exist, and bits above `nbits` are 0. Log entry 23. -/
def decodeTableWord (nbits w : Nat) : Option Instr :=
  if nbits ≤ 16 then
    let v : Word := BitVec.ofNat 16 (w % 2 ^ nbits)
    match decodeBytes [highByte v, lowByte v] with
    | .ok (i, _) => some i
    | .error _ => none
  else none

/-! ### Encoding -/

/-- Shape A (30_encoding.md R92): `op`, then `nnn = w[11:0]`. -/
def encodeA (op : Nat) (nnn : Field12) : Word := BitVec.ofNat 16 (op * 4096 + nnn.toNat)

/-- Shape RB: `op`, `x = w[11:8]`, `kk = w[7:0]`. -/
def encodeRB (op : Nat) (x : Reg) (kk : Byte) : Word := BitVec.ofNat 16 (op * 4096 + x.val * 256 + kk.toNat)

/-- Shapes RR and RRN: `op`, `x = w[11:8]`, `y = w[7:4]`, then a low nibble (a sub-operation or `n`). -/
def encodeRRN (op : Nat) (x y : Reg) (n : Nat) : Word :=
  BitVec.ofNat 16 (op * 4096 + x.val * 256 + y.val * 16 + n % 16)

/-- Shape R: `op`, `x = w[11:8]`, then a low byte that selects the operator. -/
def encodeR (op : Nat) (x : Reg) (sub : Nat) : Word := BitVec.ofNat 16 (op * 4096 + x.val * 256 + sub)

/-- 30_encoding.md R95: the fixed bits of the row of spec/opcode_table.json with the payload in its fields; the
don't-care nibble of `shr_v` and `shl_v` is 0. -/
def encode : Instr → Word
  | .cls => 0x00E0#16
  | .ret => 0x00EE#16
  | .jmp nnn => encodeA 0x1 nnn
  | .call nnn => encodeA 0x2 nnn
  | .se_v_b x kk => encodeRB 0x3 x kk
  | .sne_v_b x kk => encodeRB 0x4 x kk
  | .se_v_v x y => encodeRRN 0x5 x y 0x0
  | .ld_v_b x kk => encodeRB 0x6 x kk
  | .add_v_b x kk => encodeRB 0x7 x kk
  | .ld_v_v x y => encodeRRN 0x8 x y 0x0
  | .or_v_v x y => encodeRRN 0x8 x y 0x1
  | .and_v_v x y => encodeRRN 0x8 x y 0x2
  | .xor_v_v x y => encodeRRN 0x8 x y 0x3
  | .add_v_v x y => encodeRRN 0x8 x y 0x4
  | .sub_v_v x y => encodeRRN 0x8 x y 0x5
  | .shr_v x => encodeRRN 0x8 x 0 0x6
  | .subn_v_v x y => encodeRRN 0x8 x y 0x7
  | .shl_v x => encodeRRN 0x8 x 0 0xE
  | .sne_v_v x y => encodeRRN 0x9 x y 0x0
  | .ld_i nnn => encodeA 0xA nnn
  | .jmp_v0 nnn => encodeA 0xB nnn
  | .rnd_v_b x kk => encodeRB 0xC x kk
  | .drw x y n => encodeRRN 0xD x y n
  | .skp_v x => encodeR 0xE x 0x9E
  | .sknp_v x => encodeR 0xE x 0xA1
  | .ld_v_dt x => encodeR 0xF x 0x07
  | .ld_v_k x => encodeR 0xF x 0x0A
  | .ld_dt_v x => encodeR 0xF x 0x15
  | .ld_st_v x => encodeR 0xF x 0x18
  | .add_i_v x => encodeR 0xF x 0x1E
  | .ld_f_v x => encodeR 0xF x 0x29
  | .ld_b_v x => encodeR 0xF x 0x33
  | .ld_mem_v x => encodeR 0xF x 0x55
  | .ld_v_mem x => encodeR 0xF x 0x65

/-- The bytes of an instruction as memory holds them, first the lower address (20_memory.md R63). -/
def encodeBytes (i : Instr) : List Byte := [highByte (encode i), lowByte (encode i)]

/-- The `match` and `mask` of the instruction's row of spec/opcode_table.json: the fixed bits of its words. -/
def tableRow : Instr → Word × Word
  | .cls => (0x00E0#16, 0xFFFF#16)
  | .ret => (0x00EE#16, 0xFFFF#16)
  | .jmp _ => (0x1000#16, 0xF000#16)
  | .call _ => (0x2000#16, 0xF000#16)
  | .se_v_b _ _ => (0x3000#16, 0xF000#16)
  | .sne_v_b _ _ => (0x4000#16, 0xF000#16)
  | .se_v_v _ _ => (0x5000#16, 0xF00F#16)
  | .ld_v_b _ _ => (0x6000#16, 0xF000#16)
  | .add_v_b _ _ => (0x7000#16, 0xF000#16)
  | .ld_v_v _ _ => (0x8000#16, 0xF00F#16)
  | .or_v_v _ _ => (0x8001#16, 0xF00F#16)
  | .and_v_v _ _ => (0x8002#16, 0xF00F#16)
  | .xor_v_v _ _ => (0x8003#16, 0xF00F#16)
  | .add_v_v _ _ => (0x8004#16, 0xF00F#16)
  | .sub_v_v _ _ => (0x8005#16, 0xF00F#16)
  | .shr_v _ => (0x8006#16, 0xF00F#16)
  | .subn_v_v _ _ => (0x8007#16, 0xF00F#16)
  | .shl_v _ => (0x800E#16, 0xF00F#16)
  | .sne_v_v _ _ => (0x9000#16, 0xF00F#16)
  | .ld_i _ => (0xA000#16, 0xF000#16)
  | .jmp_v0 _ => (0xB000#16, 0xF000#16)
  | .rnd_v_b _ _ => (0xC000#16, 0xF000#16)
  | .drw _ _ _ => (0xD000#16, 0xF000#16)
  | .skp_v _ => (0xE09E#16, 0xF0FF#16)
  | .sknp_v _ => (0xE0A1#16, 0xF0FF#16)
  | .ld_v_dt _ => (0xF007#16, 0xF0FF#16)
  | .ld_v_k _ => (0xF00A#16, 0xF0FF#16)
  | .ld_dt_v _ => (0xF015#16, 0xF0FF#16)
  | .ld_st_v _ => (0xF018#16, 0xF0FF#16)
  | .add_i_v _ => (0xF01E#16, 0xF0FF#16)
  | .ld_f_v _ => (0xF029#16, 0xF0FF#16)
  | .ld_b_v _ => (0xF033#16, 0xF0FF#16)
  | .ld_mem_v _ => (0xF055#16, 0xF0FF#16)
  | .ld_v_mem _ => (0xF065#16, 0xF0FF#16)

end Sys2Proof
end

