-- ==== Sys2Proof/Config.lean ====
section
/-! DEFINITION. What is fixed for the life of one machine (10_state.md R39), and the values the spec leaves free.
The values that this hardware takes for its fixed parameters are in Machine/Parameters.lean. -/

namespace Sys2Proof

/-- The configuration of one machine: the OPEN parameters of 00_scope.md, and the font table, which 92_eei_decisions.md
D3 asks a model to keep as a configuration field. No instruction writes it (10_state.md R39). -/
structure Config where
  /-- FONT_BASE (00_scope.md R11, D2): OPEN. -/
  fontBase : Nat
  /-- MASTER_CLOCK_RATE (00_scope.md R10, D9): OPEN, a natural. -/
  masterClockRate : Nat
  /-- FONT_GLYPHS (20_memory.md R67, D3). -/
  glyphs : List Byte
  deriving DecidableEq, Repr, Inhabited

/-- What 60_exceptions.md R267 leaves unspecified once a step has failed: "a model treats it as unspecified: any
value". The shape keeps the limits that 10_state.md R53 sets for every reachable state: 12-bit addresses. The memory is
given as writes to be applied, since every memory is reached from every other by writes. Log entry 2. -/
structure Unspecified where
  V : Vector Byte 16
  I : Field12
  writes : List (Fin 4096 × Byte)
  stack : List Field12
  disp : Vector (Vector Bool 64) 32
  deriving DecidableEq, Repr, Inhabited

/-- FREE VALUE. The Byte of the random source for a step to which the host presented none: any value, with no law
between steps (43_random.md R201, 60_exceptions.md R269). Log entry 3. -/
opaque Config.randomByte : Nat → Byte

/-- FREE VALUE. What a failed step leaves beside the fault record (60_exceptions.md R267, D25). Log entry 2. -/
opaque Config.afterFault : Nat → Unspecified

end Sys2Proof
end

