-- ==== Sys2Proof/Machine/Parameters.lean ====
section
/-! DEFINITION. The values this hardware takes for its fixed parameters (00_scope.md section 3), the conventional font
table (20_memory.md R67), and which configurations build a machine (00_scope.md R11). -/

namespace Sys2Proof.Machine

/-- MEM_SIZE = 4096 Bytes (R5, D1). Log entry 19. -/
abbrev memSize : Nat := 4096

/-- STACK_DEPTH = 16 (R6). -/
abbrev stackDepth : Nat := 16

/-- MAX_SPRITE_H = 15 (R9). -/
abbrev maxSpriteHeight : Nat := 15

/-- TIMER_RATE = 60, shared by both timers (R10, D9). Log entry 19. -/
abbrev timerRate : Nat := 60

/-- RESET_PC = 0x200 (R12, D4). Log entry 5. -/
abbrev resetPc : Word := 0x200#16

/-- The Bytes of one glyph: 5, one a row (20_memory.md R67, R68). -/
abbrev glyphSize : Nat := 5

/-- The length of FONT_GLYPHS: 16 glyphs of 5 Bytes (00_scope.md R11). -/
abbrev fontSize : Nat := 80

/-- FONT_GLYPHS (20_memory.md R67, D3): the conventional table, which the spec supplies from general knowledge (K2).
UNVERIFIED, log entry 7. -/
def fontGlyphs : List Byte :=
  [0xF0, 0x90, 0x90, 0x90, 0xF0] ++  -- 0
  [0x20, 0x60, 0x20, 0x20, 0x70] ++  -- 1
  [0xF0, 0x10, 0xF0, 0x80, 0xF0] ++  -- 2
  [0xF0, 0x10, 0xF0, 0x10, 0xF0] ++  -- 3
  [0x90, 0x90, 0xF0, 0x10, 0x10] ++  -- 4
  [0xF0, 0x80, 0xF0, 0x10, 0xF0] ++  -- 5
  [0xF0, 0x80, 0xF0, 0x90, 0xF0] ++  -- 6
  [0xF0, 0x10, 0x20, 0x40, 0x40] ++  -- 7
  [0xF0, 0x90, 0xF0, 0x90, 0xF0] ++  -- 8
  [0xF0, 0x90, 0xF0, 0x10, 0xF0] ++  -- 9
  [0xF0, 0x90, 0xF0, 0x90, 0x90] ++  -- A
  [0xE0, 0x90, 0xE0, 0x90, 0xE0] ++  -- B
  [0xF0, 0x80, 0x80, 0x80, 0xF0] ++  -- C
  [0xE0, 0x90, 0x90, 0x90, 0xE0] ++  -- D
  [0xF0, 0x80, 0xF0, 0x80, 0xF0] ++  -- E
  [0xF0, 0x80, 0xF0, 0x80, 0x80]     -- F

/-- DESIGN CHOICE (log entry 4). The configuration of `State.reset`: the OPEN parameters at the values the spec's
vectors use (95_test_vectors.md), FONT_BASE = 0x000 and MASTER_CLOCK_RATE = 600. -/
def vectorConfig : Config := { fontBase := 0x000, masterClockRate := 600, glyphs := fontGlyphs }

/-- The whole font table lies in memory: FONT_BASE + 80 <= MEM_SIZE (00_scope.md R11). -/
def admissible (cfg : Config) : Bool :=
  decide (cfg.glyphs.length = fontSize) && decide (cfg.fontBase + fontSize ≤ memSize)

end Sys2Proof.Machine
end

