-- ==== Sys2Proof/Machine/State.lean ====
section
/-! DEFINITION. The state of one machine (10_state.md R20), its fault register (R38), the ways a step can stop, and the
state a newly constructed machine has (70_reset_and_hazards.md R300). -/

namespace Sys2Proof.Machine

/-- The five kinds a fault record can hold (10_state.md R38, 60_exceptions.md R268), in the source's order. -/
inductive FaultKind where
  | invalid_address
  | invalid_instruction
  | invalid_digit
  | empty_stack
  | full_stack
  deriving DecidableEq, Repr

/-- `{kind, address}`: the address is the `pc` at the start of the failing step (10_state.md R26, R38). -/
structure FaultRecord where
  kind : FaultKind
  address : Word
  deriving DecidableEq, Repr

/-- The Bytes that differ from what an unlisted address reads as, at strictly rising addresses. Log entry 8. -/
abbrev Memory := List Host.Cell

/-- The frame buffer: `disp[r][c]` is the pixel of column `c` and row `r` (10_state.md R36). -/
abbrev Display := Vector (Vector Bool 64) 32

/-- The state record of 10_state.md R20, the machine's configuration (R39), and two fields of the model's own. -/
structure State where
  /-- V[0] to V[15]; VF is V[15] (R21, R22). -/
  V : Vector Byte 16
  /-- The index register (R23). -/
  I : Word
  /-- The delay timer (R33). -/
  DT : Byte
  /-- The sound timer (R33). -/
  ST : Byte
  /-- The program counter (R25). -/
  pc : Word
  /-- Memory (R41). -/
  mem : Memory
  /-- The call stack, top at the end (R35). -/
  stack : List Word
  /-- The frame buffer (R36). -/
  disp : Display
  /-- The keypad state, written by the host only (R37). -/
  keys : Vector Bool 16
  /-- The delay-timer cycle counter (R34). -/
  CD : Nat
  /-- The sound-timer cycle counter (R34). -/
  CS : Nat
  /-- The fault register: absent means running, present means halted (R38, 60_exceptions.md R261). -/
  fault : Option FaultRecord
  /-- The configuration, fixed for the life of the machine (R39). Log entry 4. -/
  cfg : Config
  /-- The random Byte the host presents with the next step, if it presents one: an input of the step
  (60_exceptions.md R260, R269). The model's own field, log entry 3. -/
  rnd : Option Byte
  /-- The index of the next free value. The model's own field, log entry 22. -/
  freeIndex : Nat
  deriving DecidableEq, Repr

/-- No step of this machine stops with a fault: every failure of fetch, decode or execute is RECORDED in the fault
register by a step that answers a next state (60_exceptions.md R262, R264), and a halted machine goes on answering next
states (R265). So no constructor. Log entry 1; safe. -/
inductive Fault where
  deriving DecidableEq, Repr

/-- Why the model builds no next state. No instruction refuses. -/
inductive Refusal where
  /-- An instruction without a meaning in exec's arms, by its mnemonic. No arm raises it. Safe. -/
  | notModelled (mnemonic : String)
  /-- Raised by `construct`: the font table does not fit, so there is no machine (70_reset_and_hazards.md R301). Safe. -/
  | fontDoesNotFit
  /-- Raised by `loadImage`: a Byte of the image lies outside memory (60_exceptions.md R290). DESIGN CHOICE, log entry 26;
  unsafe for claims about every host. -/
  | imageOutOfBounds
  /-- Raised by `loadImage`: a Byte of the image lies in the font region (60_exceptions.md R290). DESIGN CHOICE, log entry
  26; unsafe for claims about every host. -/
  | imageInFontRegion
  deriving DecidableEq, Repr

/-- The state a construction with configuration `cfg` leaves (70_reset_and_hazards.md R300): the reset values of
10_state.md R42 to R51. Memory lists nothing: every address reads as its construction content (20_memory.md R66). -/
def State.ofConfig (cfg : Config) : State where
  V := Vector.replicate 16 0x00#8
  I := 0x0000#16
  DT := 0x00#8
  ST := 0x00#8
  pc := resetPc
  mem := []
  stack := []
  disp := Vector.replicate 32 (Vector.replicate 64 false)
  keys := Vector.replicate 16 false
  CD := 0
  CS := 0
  fault := none
  cfg := cfg
  rnd := none
  freeIndex := 0

/-- The machine right after construction with the configuration of the spec's vectors (log entry 4). -/
def State.reset : State := State.ofConfig vectorConfig

end Sys2Proof.Machine
end

