-- ==== Sys2Proof/Machine/Ops.lean ====
section
/-! DEFINITION. The named operations over memory, registers, stack, display and program counter (00_scope.md section 5),
taking a fault (60_exceptions.md R264), the random input (R269), instruction fetch and the timer advance (R262, R270). -/

namespace Sys2Proof.Machine

/-! ### Addresses -/

/-- `mask12(v) = v & 0xFFF` on a natural number (10_state.md R27). -/
def mask12 (v : Nat) : Word := BitVec.ofNat 16 (v % 2 ^ 12)

/-- `InRange(a, n)`: `a + n <= MEM_SIZE` on unbounded naturals (00_scope.md R16, 20_memory.md R65). -/
def inRange (a n : Nat) : Bool := decide (a + n ≤ memSize)

/-! ### Memory -/

/-- The construction content of an address: its glyph Byte inside the font region, zero elsewhere (20_memory.md R66).
It is what an address that memory does not list reads as. -/
def unlistedByte (cfg : Config) (a : Nat) : Byte :=
  if cfg.fontBase ≤ a then cfg.glyphs.getD (a - cfg.fontBase) 0x00#8 else 0x00#8

/-- The canonical form: addresses strictly rising and inside memory, no Byte equal to the construction content. -/
abbrev Memory.wf (cfg : Config) (m : Memory) : Prop :=
  m.Pairwise (fun c d => c.1 < d.1) ∧ ∀ c ∈ m, c.1 < memSize ∧ c.2 ≠ unlistedByte cfg c.1

/-- `MemRead(a, 1)`; its callers have checked `a < MEM_SIZE`. -/
def Memory.read (cfg : Config) : Memory → Nat → Byte
  | [], a => unlistedByte cfg a
  | (k, b) :: m, a => if k = a then b else Memory.read cfg m a

/-- `MemWrite(a, 1, b)`, keeping the canonical form; its callers have checked `a < MEM_SIZE`. -/
def Memory.write (cfg : Config) : Memory → Nat → Byte → Memory
  | [], a, b => if b = unlistedByte cfg a then [] else [(a, b)]
  | (k, c) :: m, a, b =>
    if a < k then
      if b = unlistedByte cfg a then (k, c) :: m else (a, b) :: (k, c) :: m
    else if a = k then
      if b = unlistedByte cfg a then m else (a, b) :: m
    else (k, c) :: Memory.write cfg m a b

/-- Single-Byte writes at consecutive ascending addresses from `a` (20_memory.md R64, R76). -/
def Memory.writeBytes (cfg : Config) : Memory → Nat → List Byte → Memory
  | m, _, [] => m
  | m, a, b :: bs => Memory.writeBytes cfg (Memory.write cfg m a b) (a + 1) bs

/-- The Byte at address `a`. -/
def State.byte (s : State) (a : Nat) : Byte := s.mem.read s.cfg a

/-- The `n` Bytes from address `a`, ascending. -/
def State.bytes (s : State) (a n : Nat) : List Byte := (List.range n).map fun j => s.byte (a + j)

/-- Store the Bytes `bs` from address `a`, ascending. -/
def State.setBytes (s : State) (a : Nat) (bs : List Byte) : State :=
  { s with mem := s.mem.writeBytes s.cfg a bs }

/-! ### Registers, program counter, stack -/

/-- `V[x]` (10_state.md R21). -/
def State.reg (s : State) (x : Reg) : Byte := s.V[x]

/-- `V[x] <- b`. -/
def State.setReg (s : State) (x : Reg) (b : Byte) : State := { s with V := s.V.set x b }

/-- `I <- a`. -/
def State.setI (s : State) (a : Word) : State := { s with I := a }

/-- `pc <- target`. -/
def State.jumpTo (s : State) (target : Word) : State := { s with pc := target }

/-- `advance(k)`: `pc <- mask12(pc + k)` (10_state.md R28). Log entry 10. -/
def State.advance (s : State) (k : Nat) : State := { s with pc := mask12 (s.pc.toNat + k) }

/-- A skip: 4 when the condition holds, else 2 (10_state.md R28, 41_skips.md). -/
def State.skipIf (s : State) (c : Bool) : State := s.advance (if c then 4 else 2)

/-- `Stack.push(v)`: the top is at the end (10_state.md R35). -/
def State.push (s : State) (v : Word) : State := { s with stack := s.stack ++ [v] }

/-- The stack without its top entry. -/
def State.popped (s : State) : State := { s with stack := s.stack.dropLast }

/-! ### Display -/

/-- The "coordinate-to-pixel accessor that yields nothing for out-of-bounds coordinates" (10_state.md R36). -/
def Display.pixel (d : Display) (c r : Nat) : Option Bool := d[r]? >>= fun row => row[c]?

/-- `Disp(c, r) <- b`; a coordinate off the display is skipped (44_display.md R212). -/
def Display.setPixel (d : Display) (c r : Nat) (b : Bool) : Display :=
  d.setIfInBounds r ((d.getD r (Vector.replicate 64 false)).setIfInBounds c b)

/-- Every pixel unset (44_display.md R210). -/
def Display.blank : Display := Vector.replicate 32 (Vector.replicate 64 false)

/-! ### Faults -/

/-- The numeric code of a fault kind (60_exceptions.md R268, D26). -/
def faultCode : FaultKind → Nat
  | .invalid_address => 0
  | .invalid_instruction => 1
  | .invalid_digit => 2
  | .empty_stack => 3
  | .full_stack => 4

/-- `raise Fault(k)`: the fault register records `{k, pc}` (60_exceptions.md R264, R276). The `pc` stays and the timers
and their counters do not move (R264); the keypad is the host's (10_state.md R37). What R267 leaves unspecified (the
registers, `I`, memory, the stack, the display) takes a FREE VALUE, within the limits of R53. There is no return from a
fault (R277). Log entry 2. -/
def State.raise (s : State) (k : FaultKind) : State :=
  let u := Config.afterFault s.freeIndex
  { s with
    fault := some { kind := k, address := s.pc }
    V := u.V
    I := u.I.setWidth 16
    mem := u.writes.foldl (fun m w => m.write s.cfg w.1.val w.2) s.mem
    stack := (u.stack.take stackDepth).map (·.setWidth 16)
    disp := u.disp
    freeIndex := s.freeIndex + 1 }

/-- Go on to `t` if the `n` Bytes from `I` lie in memory, else fault with `invalid_address`: the check covers the whole
range and comes before any access (20_memory.md R65). -/
def State.guardRange (s : State) (n : Nat) (t : State) : Host.Outcome State Fault Refusal :=
  if inRange s.I.toNat n then .next t else .next (s.raise .invalid_address)

/-! ### The random input -/

/-- `RandomByte()`: the Byte the host presents with this step, else a FREE VALUE (43_random.md R201, 60_exceptions.md
R269). Log entry 3. -/
def State.randomByte (s : State) : Byte := s.rnd.getD (Config.randomByte s.freeIndex)

/-- The random Byte of this step is taken: a presented Byte is gone, a free value has been used. -/
def State.randomTaken (s : State) : State :=
  match s.rnd with
  | some _ => { s with rnd := none }
  | none => { s with freeIndex := s.freeIndex + 1 }

/-! ### The step cycle's parts (60_exceptions.md R262) -/

/-- Fetch: the word at `pc`, `pc + 1`, big-endian; nothing if either Byte lies outside memory (R262, 30_encoding.md R90). -/
def State.fetch (s : State) : Option Word :=
  if inRange s.pc.toNat 2 then some (word (s.byte s.pc.toNat) (s.byte (s.pc.toNat + 1))) else none

/-- One timer and its counter (R270): the counter is incremented, then tested; when the test holds it resets, also when
the timer is already 0, and the timer falls by 1 with floor 0. Log entry 14. -/
def timerTick (masterClockRate counter : Nat) (timer : Byte) : Nat × Byte :=
  if masterClockRate / (counter + 1) ≤ timerRate then
    (0, if timer.toNat > 0 then timer - 1#8 else timer)
  else (counter + 1, timer)

/-- `timer_advance()` (R270). -/
def State.timerAdvance (s : State) : State :=
  { s with
    CD := (timerTick s.cfg.masterClockRate s.CD s.DT).1
    DT := (timerTick s.cfg.masterClockRate s.CD s.DT).2
    CS := (timerTick s.cfg.masterClockRate s.CS s.ST).1
    ST := (timerTick s.cfg.masterClockRate s.CS s.ST).2 }

/-- The end of a step (R262, steps 5 and 6): after a failure nothing more happens; on success the timers advance. -/
def finishStep : Host.Outcome State Fault Refusal → Host.Outcome State Fault Refusal
  | .next t => .next (if t.fault.isSome then t else t.timerAdvance)
  | .fault f => .fault f
  | .refused r => .refused r

end Sys2Proof.Machine
end

