-- ==== Sys2Proof/Machine/Operands.lean ====
section
/-! DEFINITION. What an operand stands for beyond a plain register read: address fields, the key a register names, a hex
digit's glyph, the digits of a BCD store, the registers of a range transfer. -/

namespace Sys2Proof.Machine

/-- VF is V[15] (10_state.md R21). -/
abbrev vf : Reg := 15

/-- V0, the offset register of `jmp_v0` (40_control_flow.md R123). -/
abbrev v0 : Reg := 0

/-- `zext_16(nnn)`: a 12-bit address taken as is (30_encoding.md R92). -/
def addressOf (nnn : Field12) : Word := nnn.setWidth 16

/-- `k < 16 and keys[k]`: "any key index >= 16 is never pressed" (41_skips.md R144). -/
def State.keyDown (s : State) (k : Nat) : Bool := s.keys[k]?.getD false

/-- The least pressed key, if any key is pressed (45_keypad_timer_misc.md R230). -/
def State.lowestKey (s : State) : Option Nat := (List.range 16).find? s.keyDown

/-- The glyph address of hex digit `d`: `FONT_BASE + 5 * d` (20_memory.md R68). -/
def glyphAddress (cfg : Config) (d : Nat) : Word := BitVec.ofNat 16 (cfg.fontBase + glyphSize * d)

/-- Hundreds, tens and ones, in the order they are stored (45_keypad_timer_misc.md R235). -/
def bcdDigits (v : Byte) : List Byte :=
  [BitVec.ofNat 8 (v.toNat / 100), BitVec.ofNat 8 (v.toNat / 10 % 10), BitVec.ofNat 8 (v.toNat % 10)]

/-- V[0] to V[x], inclusive (45_keypad_timer_misc.md R236). -/
def State.regsUpTo (s : State) (x : Reg) : List Byte := (List.range (x.val + 1)).map fun j => s.reg (regOf j)

/-- V[0] to V[x] loaded from the Bytes at `a`, ascending; the others stay (45_keypad_timer_misc.md R237). -/
def State.loadRegs (s : State) (x : Reg) (a : Nat) : State :=
  { s with V := Vector.ofFn fun j : Fin 16 => if j.val ≤ x.val then s.byte (a + j.val) else s.reg j }

end Sys2Proof.Machine
end

