-- ==== Sys2Proof/Machine/Flags.lean ====
section
/-! DEFINITION. The flags: carry, not-borrow and the shifted-out bit (42_alu.md R173), all written to VF, and the
flag-first write ordering (10_state.md R31). There is no other flag (R32). -/

namespace Sys2Proof.Machine

/-- A flag in VF is the Byte 0 or 1 (10_state.md R32). -/
def flagByte (f : Bool) : Byte := if f then 0x01#8 else 0x00#8

/-- "1 if the 8-bit addition overflows else 0" (42_alu.md R166). -/
def carry (a b : Byte) : Bool := decide (a.toNat + b.toNat > 255)

/-- "flag = 0 if borrow occurs else 1", for `a - b` (42_alu.md R167, R168). -/
def notBorrow (a b : Byte) : Bool := !decide (a.toNat < b.toNat)

/-- The bit a right shift moves out: bit 0 (42_alu.md R169). -/
def bit0 (a : Byte) : Bool := decide (a.toNat % 2 = 1)

/-- The bit a left shift moves out: bit 7 (42_alu.md R170). -/
def bit7 (a : Byte) : Bool := decide (a.toNat / 128 % 2 = 1)

/-- The flag goes to VF first and the result to V[x] second, so the result wins when `x` = 15 (10_state.md R31). Both are
computed by the caller from the operand values before either write. -/
def State.flagThenResult (s : State) (x : Reg) (flag : Bool) (result : Byte) : State :=
  (s.setReg vf (flagByte flag)).setReg x result

end Sys2Proof.Machine
end

