-- ==== Sys2Proof/Machine/Alu.lean ====
section
/-! DEFINITION. Data movement and ALU (42_alu.md): every instruction ends with `advance(2)`. VF is written by the five
flag instructions and otherwise only as the named destination (10_state.md R22; log entry 17). -/

namespace Sys2Proof.Machine

/-- R160. -/
def exec_ld_v_b (x : Reg) (kk : Byte) (s : State) : Host.Outcome State Fault Refusal :=
  .next ((s.setReg x kk).advance 2)

/-- R161: the carry is discarded. -/
def exec_add_v_b (x : Reg) (kk : Byte) (s : State) : Host.Outcome State Fault Refusal :=
  .next ((s.setReg x (s.reg x + kk)).advance 2)

/-- R162. -/
def exec_ld_v_v (x y : Reg) (s : State) : Host.Outcome State Fault Refusal :=
  .next ((s.setReg x (s.reg y)).advance 2)

/-- R163. -/
def exec_or_v_v (x y : Reg) (s : State) : Host.Outcome State Fault Refusal :=
  .next ((s.setReg x (s.reg x ||| s.reg y)).advance 2)

/-- R164. -/
def exec_and_v_v (x y : Reg) (s : State) : Host.Outcome State Fault Refusal :=
  .next ((s.setReg x (s.reg x &&& s.reg y)).advance 2)

/-- R165. -/
def exec_xor_v_v (x y : Reg) (s : State) : Host.Outcome State Fault Refusal :=
  .next ((s.setReg x (s.reg x ^^^ s.reg y)).advance 2)

/-- R166: VF is the carry, V[x] the wrapped sum. -/
def exec_add_v_v (x y : Reg) (s : State) : Host.Outcome State Fault Refusal :=
  .next ((s.flagThenResult x (carry (s.reg x) (s.reg y)) (s.reg x + s.reg y)).advance 2)

/-- R167: VF is the not-borrow of `V[x] - V[y]`. -/
def exec_sub_v_v (x y : Reg) (s : State) : Host.Outcome State Fault Refusal :=
  .next ((s.flagThenResult x (notBorrow (s.reg x) (s.reg y)) (s.reg x - s.reg y)).advance 2)

/-- R168: VF is the not-borrow of `V[y] - V[x]`; the destination is V[x]. -/
def exec_subn_v_v (x y : Reg) (s : State) : Host.Outcome State Fault Refusal :=
  .next ((s.flagThenResult x (notBorrow (s.reg y) (s.reg x)) (s.reg y - s.reg x)).advance 2)

/-- R169: source and destination are V[x]. -/
def exec_shr_v (x : Reg) (s : State) : Host.Outcome State Fault Refusal :=
  .next ((s.flagThenResult x (bit0 (s.reg x)) (s.reg x >>> 1)).advance 2)

/-- R170: source and destination are V[x]. -/
def exec_shl_v (x : Reg) (s : State) : Host.Outcome State Fault Refusal :=
  .next ((s.flagThenResult x (bit7 (s.reg x)) (s.reg x <<< 1)).advance 2)

/-- R171: `I <- nnn`, not checked against memory. -/
def exec_ld_i (nnn : Field12) (s : State) : Host.Outcome State Fault Refusal :=
  .next ((s.setI (addressOf nnn)).advance 2)

/-- R172: `I <- mask12(I + V[x])`; VF is not written. -/
def exec_add_i_v (x : Reg) (s : State) : Host.Outcome State Fault Refusal :=
  .next ((s.setI (mask12 (s.I.toNat + (s.reg x).toNat))).advance 2)

end Sys2Proof.Machine
end

