-- ==== Sys2Proof/Machine/ControlFlow.lean ====
section
/-! DEFINITION. Control flow (40_control_flow.md). -/

namespace Sys2Proof.Machine

/-- R120: `pc <- nnn`. -/
def exec_jmp (nnn : Field12) (s : State) : Host.Outcome State Fault Refusal := .next (s.jumpTo (addressOf nnn))

/-- R121: `full_stack` when 16 entries are held, checked before any write; else push `mask12(pc + 2)` and jump. -/
def exec_call (nnn : Field12) (s : State) : Host.Outcome State Fault Refusal :=
  if s.stack.length ≥ stackDepth then .next (s.raise .full_stack)
  else .next ((s.push (mask12 (s.pc.toNat + 2))).jumpTo (addressOf nnn))

/-- R122: `empty_stack` when nothing is held; else the popped value goes to `pc` as it is. -/
def exec_ret (s : State) : Host.Outcome State Fault Refusal :=
  match s.stack.getLast? with
  | none => .next (s.raise .empty_stack)
  | some top => .next (s.popped.jumpTo top)

/-- R123: `pc <- mask12(V0 + nnn)`; always V0. -/
def exec_jmp_v0 (nnn : Field12) (s : State) : Host.Outcome State Fault Refusal :=
  .next (s.jumpTo (mask12 ((s.reg v0).toNat + nnn.toNat)))

end Sys2Proof.Machine
end

