-- ==== Sys2Proof/Machine/Display.lean ====
section
/-! DEFINITION. Display (44_display.md): clear, and the XOR sprite rasterizer with clipping. Log entry 16. -/

namespace Sys2Proof.Machine

/-- R210: every pixel false. -/
def exec_cls (s : State) : Host.Outcome State Fault Refusal :=
  .next (({ s with disp := Display.blank } : State).advance 2)

/-- A draw in progress: the frame buffer, and whether a drawn pixel was set where the sprite bit is 1. -/
structure Canvas where
  disp : Display
  hit : Bool
  deriving DecidableEq, Repr

/-- Bit of column `c` of a sprite row, most significant first: `(row >> (7 - c)) & 1` (R211). -/
def spriteBit (row : Byte) (c : Nat) : Bool := decide (row.toNat / 2 ^ (7 - c) % 2 = 1)

/-- One pixel of R211: skipped when off the display (R212); else the collision test, then XOR with the sprite bit. -/
def drawPixel (px py : Nat) (bit : Bool) (v : Canvas) : Canvas :=
  match v.disp.pixel px py with
  | none => v
  | some old => { disp := v.disp.setPixel px py (old ^^ bit), hit := v.hit || (old && bit) }

/-- The 8 columns of one sprite row, from column `x0`, on display row `py`. -/
def drawRow (x0 py : Nat) (row : Byte) (v : Canvas) : Canvas :=
  (List.range 8).foldl (fun u c => drawPixel (x0 + c) py (spriteBit row c) u) v

/-- The rows of a sprite, top to bottom, from row `y0`. -/
def drawRows (x0 : Nat) : Nat → List Byte → Canvas → Canvas
  | _, [], v => v
  | y0, row :: rows, v => drawRows x0 (y0 + 1) rows (drawRow x0 y0 row v)

/-- The draw of R211 at coordinates captured before VF is cleared: coordinate sums are naturals and do not wrap (D22). -/
def State.drawSprite (s : State) (x0 y0 : Nat) (rows : List Byte) : State :=
  let v := drawRows x0 y0 rows { disp := s.disp, hit := false }
  { (s.setReg vf (flagByte v.hit)) with disp := v.disp }

/-- R211: the height check comes first (unreachable from a word, 30_encoding.md R103), then the range check, then the
draw. -/
def exec_drw (x y : Reg) (n : Nat) (s : State) : Host.Outcome State Fault Refusal :=
  if n > maxSpriteHeight then .next (s.raise .invalid_instruction)
  else s.guardRange n
    ((s.drawSprite (s.reg x).toNat (s.reg y).toNat (s.bytes s.I.toNat n)).advance 2)

end Sys2Proof.Machine
end

