-- ==== Sys2Proof/Machine/KeypadTimer.lean ====
section
/-! DEFINITION. Keypad, timers and memory transfer (45_keypad_timer_misc.md). -/

namespace Sys2Proof.Machine

/-- R230: with a key pressed, the least one goes to V[x]; with none, nothing is written, `pc` stays, and the step is
still a success (D27). Log entry 15. -/
def exec_ld_v_k (x : Reg) (s : State) : Host.Outcome State Fault Refusal :=
  match s.lowestKey with
  | some k => .next ((s.setReg x (BitVec.ofNat 8 k)).advance 2)
  | none => .next s

/-- R231: `DT` as it is before this step's timer advance. -/
def exec_ld_v_dt (x : Reg) (s : State) : Host.Outcome State Fault Refusal :=
  .next ((s.setReg x s.DT).advance 2)

/-- R232: the cycle counter is not touched. -/
def exec_ld_dt_v (x : Reg) (s : State) : Host.Outcome State Fault Refusal :=
  .next (({ s with DT := s.reg x } : State).advance 2)

/-- R233: the cycle counter is not touched. -/
def exec_ld_st_v (x : Reg) (s : State) : Host.Outcome State Fault Refusal :=
  .next (({ s with ST := s.reg x } : State).advance 2)

/-- R234: `invalid_digit` when V[x] > 0x0F; else `I` is the glyph's address. -/
def exec_ld_f_v (x : Reg) (s : State) : Host.Outcome State Fault Refusal :=
  if (s.reg x).toNat > 0x0F then .next (s.raise .invalid_digit)
  else .next ((s.setI (glyphAddress s.cfg (s.reg x).toNat)).advance 2)

/-- R235: hundreds, tens and ones to `I`, `I + 1`, `I + 2`. -/
def exec_ld_b_v (x : Reg) (s : State) : Host.Outcome State Fault Refusal :=
  s.guardRange 3 ((s.setBytes s.I.toNat (bcdDigits (s.reg x))).advance 2)

/-- R236: V[0] to V[x] to memory from `I`; `I` is unchanged. -/
def exec_ld_mem_v (x : Reg) (s : State) : Host.Outcome State Fault Refusal :=
  s.guardRange (x.val + 1) ((s.setBytes s.I.toNat (s.regsUpTo x)).advance 2)

/-- R237: memory from `I` to V[0] to V[x]; `I` is unchanged. -/
def exec_ld_v_mem (x : Reg) (s : State) : Host.Outcome State Fault Refusal :=
  s.guardRange (x.val + 1) ((s.loadRegs x s.I.toNat).advance 2)

end Sys2Proof.Machine
end

