-- ==== Sys2Proof/Machine/Random.lean ====
section
/-! DEFINITION. Random (43_random.md). -/

namespace Sys2Proof.Machine

/-- R200: `V[x] <- r & kk` with `r` the random Byte of this step (R201). -/
def exec_rnd_v_b (x : Reg) (kk : Byte) (s : State) : Host.Outcome State Fault Refusal :=
  .next ((s.randomTaken.setReg x (s.randomByte &&& kk)).advance 2)

end Sys2Proof.Machine
end

