-- ==== Sys2Proof/Machine/Skips.lean ====
section
/-! DEFINITION. Conditional skips (41_skips.md). The skipped word is neither fetched nor decoded (R146). -/

namespace Sys2Proof.Machine

/-- R140: skip if `V[x] = kk`. -/
def exec_se_v_b (x : Reg) (kk : Byte) (s : State) : Host.Outcome State Fault Refusal :=
  .next (s.skipIf (decide (s.reg x = kk)))

/-- R141: skip if `V[x] != kk`. -/
def exec_sne_v_b (x : Reg) (kk : Byte) (s : State) : Host.Outcome State Fault Refusal :=
  .next (s.skipIf (decide (s.reg x ≠ kk)))

/-- R142: skip if `V[x] = V[y]`. -/
def exec_se_v_v (x y : Reg) (s : State) : Host.Outcome State Fault Refusal :=
  .next (s.skipIf (decide (s.reg x = s.reg y)))

/-- R143: skip if `V[x] != V[y]`. -/
def exec_sne_v_v (x y : Reg) (s : State) : Host.Outcome State Fault Refusal :=
  .next (s.skipIf (decide (s.reg x ≠ s.reg y)))

/-- R144: skip if the key V[x] is pressed; an index of 16 or more is never pressed and never a fault. -/
def exec_skp_v (x : Reg) (s : State) : Host.Outcome State Fault Refusal :=
  .next (s.skipIf (s.keyDown (s.reg x).toNat))

/-- R145: skip if the key V[x] is not pressed. -/
def exec_sknp_v (x : Reg) (s : State) : Host.Outcome State Fault Refusal :=
  .next (s.skipIf (!s.keyDown (s.reg x).toNat))

end Sys2Proof.Machine
end

