-- ==== Sys2Proof/Machine/Dispatch.lean ====
section
/-! DEFINITION. The meaning of every instruction: one arm a constructor, in the order of spec/opcode_table.json. -/

namespace Sys2Proof.Machine

def exec (i : Instr) (s : State) : Host.Outcome State Fault Refusal :=
  match i with
  | .cls => Sys2Proof.Machine.exec_cls s
  | .ret => Sys2Proof.Machine.exec_ret s
  | .jmp nnn => Sys2Proof.Machine.exec_jmp nnn s
  | .call nnn => Sys2Proof.Machine.exec_call nnn s
  | .se_v_b x kk => Sys2Proof.Machine.exec_se_v_b x kk s
  | .sne_v_b x kk => Sys2Proof.Machine.exec_sne_v_b x kk s
  | .se_v_v x y => Sys2Proof.Machine.exec_se_v_v x y s
  | .ld_v_b x kk => Sys2Proof.Machine.exec_ld_v_b x kk s
  | .add_v_b x kk => Sys2Proof.Machine.exec_add_v_b x kk s
  | .ld_v_v x y => Sys2Proof.Machine.exec_ld_v_v x y s
  | .or_v_v x y => Sys2Proof.Machine.exec_or_v_v x y s
  | .and_v_v x y => Sys2Proof.Machine.exec_and_v_v x y s
  | .xor_v_v x y => Sys2Proof.Machine.exec_xor_v_v x y s
  | .add_v_v x y => Sys2Proof.Machine.exec_add_v_v x y s
  | .sub_v_v x y => Sys2Proof.Machine.exec_sub_v_v x y s
  | .shr_v x => Sys2Proof.Machine.exec_shr_v x s
  | .subn_v_v x y => Sys2Proof.Machine.exec_subn_v_v x y s
  | .shl_v x => Sys2Proof.Machine.exec_shl_v x s
  | .sne_v_v x y => Sys2Proof.Machine.exec_sne_v_v x y s
  | .ld_i nnn => Sys2Proof.Machine.exec_ld_i nnn s
  | .jmp_v0 nnn => Sys2Proof.Machine.exec_jmp_v0 nnn s
  | .rnd_v_b x kk => Sys2Proof.Machine.exec_rnd_v_b x kk s
  | .drw x y n => Sys2Proof.Machine.exec_drw x y n s
  | .skp_v x => Sys2Proof.Machine.exec_skp_v x s
  | .sknp_v x => Sys2Proof.Machine.exec_sknp_v x s
  | .ld_v_dt x => Sys2Proof.Machine.exec_ld_v_dt x s
  | .ld_v_k x => Sys2Proof.Machine.exec_ld_v_k x s
  | .ld_dt_v x => Sys2Proof.Machine.exec_ld_dt_v x s
  | .ld_st_v x => Sys2Proof.Machine.exec_ld_st_v x s
  | .add_i_v x => Sys2Proof.Machine.exec_add_i_v x s
  | .ld_f_v x => Sys2Proof.Machine.exec_ld_f_v x s
  | .ld_b_v x => Sys2Proof.Machine.exec_ld_b_v x s
  | .ld_mem_v x => Sys2Proof.Machine.exec_ld_mem_v x s
  | .ld_v_mem x => Sys2Proof.Machine.exec_ld_v_mem x s

end Sys2Proof.Machine
end

