-- ==== Sys2Proof/Machine/Step.lean ====
section
/-! DEFINITION. One step (60_exceptions.md R262). Its parts (fetch, taking a fault, the timer advance) are in Ops.lean. -/

namespace Sys2Proof.Machine

/-- `step` of R262. A halted machine's step is a no-op (R265); a failure of fetch, decode or execute is recorded; a
success advances the timers. Whether the step "advanced" is `advanced` of Interface.lean. -/
def step (s : State) : Host.Outcome State Fault Refusal :=
  match s.fault with
  | some _ => .next s
  | none =>
    match s.fetch with
    | none => .next (s.raise .invalid_address)
    | some w =>
      match decode w with
      | none => .next (s.raise .invalid_instruction)
      | some i => finishStep (exec i s)

/-- `s` with the word whose table-numbered bits are `w` stored at `pc`, where the next fetch reads it: the host's load of
a program (60_exceptions.md R290, 70_reset_and_hazards.md R302). Nothing is stored where no fetch can succeed. Log
entry 13. -/
def State.withFetchWord (s : State) (nbits w : Nat) : State :=
  let v : Word := BitVec.ofNat 16 (w % 2 ^ (min nbits 16))
  if inRange s.pc.toNat 2 then s.setBytes s.pc.toNat [highByte v, lowByte v] else s

end Sys2Proof.Machine
end

