-- ==== Sys2Proof/Machine/Interface.lean ====
section
/-! DEFINITION. The block interface at transaction level (60_exceptions.md R290, D28, D29): what the host can do to the
machine, and what it can read. -/

namespace Sys2Proof.Machine

/-- Construct (R290, 70_reset_and_hazards.md R300): a configuration whose font does not fit builds no machine (R301). -/
def construct (cfg : Config) : Host.Outcome State Fault Refusal :=
  if admissible cfg then .next (State.ofConfig cfg) else .refused .fontDoesNotFit

/-- The addresses FONT_BASE to FONT_BASE + 79 (20_memory.md R66). -/
def inFont (cfg : Config) (a : Nat) : Bool := decide (cfg.fontBase ≤ a) && decide (a < cfg.fontBase + fontSize)

/-- Load memory (R290): Bytes at addresses inside memory and outside the font region, after construction and before the
first step (20_memory.md R81). DESIGN CHOICE (log entry 26): an image that breaks either limit is refused whole and no
Byte of it is written; the spec says only "bounds enforced" and "outside the font region". -/
def State.loadImage (s : State) (a : Nat) (image : List Byte) : Host.Outcome State Fault Refusal :=
  if !inRange a image.length then .refused .imageOutOfBounds
  else if (List.range image.length).any fun j => inFont s.cfg (a + j) then .refused .imageInFontRegion
  else .next (s.setBytes a image)

/-- What the host gives one step (R290): the key states it sets before the step, and the random Byte. -/
structure StepInput where
  keys : Vector Bool 16
  random : Byte
  deriving DecidableEq, Repr

/-- Set keys, and present the random Byte of the next step (R260, R290). -/
def State.present (s : State) (input : StepInput) : State :=
  { s with keys := input.keys, rnd := some input.random }

/-- The Boolean a step returns (R260, R262): `true` exactly when the machine was running and recorded no fault. -/
def advanced (s : State) : Bool :=
  match step s with
  | .next t => s.fault.isNone && t.fault.isNone
  | .fault _ | .refused _ => false

/-- Read the display (R290): the pixel at column `c` and row `r`. -/
def State.readDisplay (s : State) (c r : Nat) : Option Bool := s.disp.pixel c r

/-- Read the fault (R290): absent, or `{kind, address}`. -/
def State.readFault (s : State) : Option FaultRecord := s.fault

/-- A snapshot is "an independent deep copy including memory contents" (R291, 10_state.md R52). Log entry 25. -/
def State.snapshot (s : State) : State := s

/-- Restoring a snapshot makes a machine whose state equals the copy (R291). -/
def State.restored (_now copy : State) : State := copy

/-- A host-driven run (R292): before each step the host presents keys and a random Byte. It stops only where a step gives
no next state. -/
def runWith : List StepInput → State → Host.Outcome State Fault Refusal
  | [], s => .next s
  | input :: inputs, s =>
    match step (s.present input) with
    | .next t => runWith inputs t
    | .fault f => .fault f
    | .refused r => .refused r

/-- The end of a run by a named `pc` (R293, D32): reached with no fault recorded; "a faulted state is never a good end". -/
def goodEnd (target : Word) (s : State) : Bool := decide (s.pc = target) && s.fault.isNone

end Sys2Proof.Machine
end

