-- ==== Sys2Proof/Safety.lean ====
section
/-! DEFINITION. The terms in which claims speak: a running machine, an answer, what an instruction leaves unchanged, the
fault table of 60_exceptions.md R268 read as a function, and the invariant of 10_state.md R53. Written from the spec's
rules, not from the meanings. -/

namespace Sys2Proof.Machine

/-- "running (fault unset)" (60_exceptions.md R261). -/
abbrev State.running (s : State) : Prop := s.fault = none

/-- The outcome is a next state, and `P` holds of it. -/
def Answers (o : Host.Outcome State Fault Refusal) (P : State → Prop) : Prop := ∃ t, o = .next t ∧ P t

/-- Apply `f` to the next state of an outcome, and to nothing else. -/
def mapNext (f : State → State) : Host.Outcome State Fault Refusal → Host.Outcome State Fault Refusal
  | .next t => .next (f t)
  | .fault r => .fault r
  | .refused r => .refused r

/-! ### Frames -/

/-- The parts of the state beside the general registers. -/
inductive Part where
  | index | delay | sound | pc | memory | stack | display | keys | counters | fault | config | random
  deriving DecidableEq, Repr

/-- The two states agree on a part; for memory, every address reads the same Byte. -/
def Part.agree (s t : State) : Part → Prop
  | .index => t.I = s.I
  | .delay => t.DT = s.DT
  | .sound => t.ST = s.ST
  | .pc => t.pc = s.pc
  | .memory => ∀ a, t.byte a = s.byte a
  | .stack => t.stack = s.stack
  | .display => t.disp = s.disp
  | .keys => t.keys = s.keys
  | .counters => t.CD = s.CD ∧ t.CS = s.CS
  | .fault => t.fault = s.fault
  | .config => t.cfg = s.cfg
  | .random => t.rnd = s.rnd ∧ t.freeIndex = s.freeIndex

/-- From `s` to `t` nothing changes but, possibly, the parts in `parts` and the general registers in `regs`. -/
def SameBut (parts : List Part) (regs : List Reg) (s t : State) : Prop :=
  (∀ p, p ∉ parts → p.agree s t) ∧ ∀ r, r ∉ regs → t.reg r = s.reg r

/-- Every address outside the `n` Bytes from `a` reads as before. -/
def SameBytesOutside (a n : Nat) (s t : State) : Prop := ∀ b, b < a ∨ a + n ≤ b → t.byte b = s.byte b

/-- The `n` Bytes from `I` lie in memory (20_memory.md R65). -/
abbrev State.spans (s : State) (n : Nat) : Prop := s.I.toNat + n ≤ 4096

/-- The parts an instruction that succeeds may change, by the rules that name the writers of each part: `I` 10_state.md
R23, timers R33, stack R35, display R36, memory 20_memory.md R61, random input 60_exceptions.md R269; all may move `pc`. -/
def writtenParts : Instr → List Part
  | .cls | .drw _ _ _ => [.pc, .display]
  | .ret | .call _ => [.pc, .stack]
  | .ld_i _ | .add_i_v _ | .ld_f_v _ => [.pc, .index]
  | .rnd_v_b _ _ => [.pc, .random]
  | .ld_dt_v _ => [.pc, .delay]
  | .ld_st_v _ => [.pc, .sound]
  | .ld_b_v _ | .ld_mem_v _ => [.pc, .memory]
  | .jmp _ | .jmp_v0 _ | .se_v_b _ _ | .sne_v_b _ _ | .se_v_v _ _ | .sne_v_v _ _ | .skp_v _ | .sknp_v _
  | .ld_v_b _ _ | .add_v_b _ _ | .ld_v_v _ _ | .or_v_v _ _ | .and_v_v _ _ | .xor_v_v _ _ | .add_v_v _ _
  | .sub_v_v _ _ | .shr_v _ | .subn_v_v _ _ | .shl_v _ | .ld_v_dt _ | .ld_v_k _ | .ld_v_mem _ => [.pc]

/-- The general registers an instruction that succeeds may change: its destination, VF for the six instructions that
write a flag (10_state.md R22), the whole range of `ld_v_mem`. -/
def writtenRegs : Instr → List Reg
  | .add_v_v x _ | .sub_v_v x _ | .subn_v_v x _ | .shr_v x | .shl_v x => [x, 15]
  | .drw _ _ _ => [15]
  | .ld_v_b x _ | .add_v_b x _ | .ld_v_v x _ | .or_v_v x _ | .and_v_v x _ | .xor_v_v x _ | .rnd_v_b x _
  | .ld_v_dt x | .ld_v_k x => [x]
  | .ld_v_mem x => (List.finRange 16).filter (· ≤ x)
  | .cls | .ret | .jmp _ | .call _ | .se_v_b _ _ | .sne_v_b _ _ | .se_v_v _ _ | .sne_v_v _ _ | .ld_i _ | .jmp_v0 _
  | .skp_v _ | .sknp_v _ | .ld_dt_v _ | .ld_st_v _ | .add_i_v _ | .ld_f_v _ | .ld_b_v _ | .ld_mem_v _ => []

/-- The instructions that set `pc` other than by `advance(2)` (10_state.md R28). -/
def redirects : Instr → Bool
  | .jmp _ | .call _ | .ret | .jmp_v0 _ | .se_v_b _ _ | .sne_v_b _ _ | .se_v_v _ _ | .sne_v_v _ _ | .skp_v _
  | .sknp_v _ | .ld_v_k _ => true
  | .cls | .ld_v_b _ _ | .add_v_b _ _ | .ld_v_v _ _ | .or_v_v _ _ | .and_v_v _ _ | .xor_v_v _ _ | .add_v_v _ _
  | .sub_v_v _ _ | .shr_v _ | .subn_v_v _ _ | .shl_v _ | .ld_i _ | .rnd_v_b _ _ | .drw _ _ _ | .ld_v_dt _
  | .ld_dt_v _ | .ld_st_v _ | .add_i_v _ | .ld_f_v _ | .ld_b_v _ | .ld_mem_v _ | .ld_v_mem _ => false

/-- The instructions that read the keypad state (70_reset_and_hazards.md R314). -/
def readsKeys : Instr → Bool
  | .skp_v _ | .sknp_v _ | .ld_v_k _ => true
  | .cls | .ret | .jmp _ | .call _ | .se_v_b _ _ | .sne_v_b _ _ | .se_v_v _ _ | .ld_v_b _ _ | .add_v_b _ _
  | .ld_v_v _ _ | .or_v_v _ _ | .and_v_v _ _ | .xor_v_v _ _ | .add_v_v _ _ | .sub_v_v _ _ | .shr_v _ | .subn_v_v _ _
  | .shl_v _ | .sne_v_v _ _ | .ld_i _ | .jmp_v0 _ | .rnd_v_b _ _ | .drw _ _ _ | .ld_v_dt _ | .ld_dt_v _ | .ld_st_v _
  | .add_i_v _ | .ld_f_v _ | .ld_b_v _ | .ld_mem_v _ | .ld_v_mem _ => false

/-! ### Faults -/

/-- The table of 60_exceptions.md R268 with the order of R275: the fault an instruction records when it is executed in
`s`, if it records one. -/
def tabledFault (s : State) : Instr → Option FaultKind
  | .ret => if s.stack.length = 0 then some .empty_stack else none
  | .call _ => if 16 ≤ s.stack.length then some .full_stack else none
  | .drw _ _ n =>
    if 15 < n then some .invalid_instruction
    else if 4096 < s.I.toNat + n then some .invalid_address else none
  | .ld_f_v x => if 0x0F < (s.reg x).toNat then some .invalid_digit else none
  | .ld_b_v _ => if 4096 < s.I.toNat + 3 then some .invalid_address else none
  | .ld_mem_v x | .ld_v_mem x => if 4096 < s.I.toNat + (x.val + 1) then some .invalid_address else none
  | .cls | .jmp _ | .se_v_b _ _ | .sne_v_b _ _ | .se_v_v _ _ | .ld_v_b _ _ | .add_v_b _ _ | .ld_v_v _ _ | .or_v_v _ _
  | .and_v_v _ _ | .xor_v_v _ _ | .add_v_v _ _ | .sub_v_v _ _ | .shr_v _ | .subn_v_v _ _ | .shl_v _ | .sne_v_v _ _
  | .ld_i _ | .jmp_v0 _ | .rnd_v_b _ _ | .skp_v _ | .sknp_v _ | .ld_v_dt _ | .ld_v_k _ | .ld_dt_v _ | .ld_st_v _
  | .add_i_v _ => none

/-! ### The sprite of a draw -/

/-- The sprite bit that falls on column `c`, row `r`, of an `n`-row sprite at `I` drawn at (`x0`, `y0`): most significant
bit leftmost, coordinates not wrapped (44_display.md R211). -/
def spriteAt (s : State) (x0 y0 n c r : Nat) : Bool :=
  decide (x0 ≤ c ∧ c < x0 + 8 ∧ y0 ≤ r ∧ r < y0 + n) && (s.byte (s.I.toNat + (r - y0))).getLsbD (7 - (c - x0))

/-! ### Invariant and reachability -/

/-- The invariant of 10_state.md R53 with the bound of R34, the admissible configuration of 00_scope.md R11 and the
canonical form of memory (log entry 8). -/
structure Inv (s : State) : Prop where
  config : admissible s.cfg = true
  pc : s.pc.toNat ≤ 0xFFF
  index : s.I.toNat ≤ 0xFFF
  stackDepth : s.stack.length ≤ 16
  stackEntries : ∀ a ∈ s.stack, a.toNat ≤ 0xFFF
  counters : s.CD = s.CS
  counterBound : s.CD ≤ s.cfg.masterClockRate + 1
  memory : s.mem.wf s.cfg

/-- A machine before its first step: constructed, then loaded any number of times (60_exceptions.md R290). -/
inductive Loaded : State → Prop where
  | construct {cfg : Config} {s : State} (h : construct cfg = .next s) : Loaded s
  | load {s t : State} {a : Nat} {image : List Byte} (hs : Loaded s) (h : s.loadImage a image = .next t) : Loaded t

/-- A state some host can bring a machine to: loaded, then inputs presented and steps taken (60_exceptions.md R290,
R292). Restoring a snapshot gives again such a state (R291). -/
inductive Reachable : State → Prop where
  | loaded {s : State} (h : Loaded s) : Reachable s
  | present {s : State} (input : StepInput) (hs : Reachable s) : Reachable (s.present input)
  | step {s t : State} (hs : Reachable s) (h : step s = .next t) : Reachable t

end Sys2Proof.Machine
end

