-- ==== Sys2Proof/Certificates/Slice0/Obligations.lean ====
section
/-! DEFINITION. The statements for the provers. The 12-bit mask of the pc advance, of the pushed return address and of the
`jmp_v0` target is the spec's own decision (92_eei_decisions.md D11, log entry 10): a statement with `% 4096` in a pc or
return-address clause rests on it, and is marked derived. A statement that speaks of a decoded word rests on the bit
patterns, which the spec supplies from general knowledge (K1, log entry 6). None rests on the value of a free value (log
entries 3, 22). Of a state after a fault the statements read the fault record; those that read more of it, which
60_exceptions.md R267 leaves at any value, name log entry 2. -/

open Sys2Proof Sys2Proof.Machine

/-! ### The step cycle and faults -/

/-- 60_exceptions.md R262 for a running machine whose fetched word decodes: the step runs that instruction and, when it
recorded no fault, advances the timers. -/
def Obligations.StepRunsTheDecodedInstruction : Prop :=
  ∀ (s : State) (i : Instr), s.running → s.pc.toNat + 2 ≤ 4096 →
    decode (word (s.byte s.pc.toNat) (s.byte (s.pc.toNat + 1))) = some i →
    step s = match exec i s with
      | .next t => if t.fault = none then .next t.timerAdvance else .next t
      | .fault f => .fault f
      | .refused r => .refused r

/-- 60_exceptions.md R265. -/
def Obligations.HaltedStepChangesNothing : Prop :=
  ∀ s : State, s.fault ≠ none → step s = .next s ∧ advanced s = false

/-- 60_exceptions.md R266: no instruction (no step at all) and no host operation clears a fault record. -/
def Obligations.RecordedFaultIsPermanent : Prop :=
  ∀ (s : State) (r : FaultRecord), s.fault = some r →
    (∀ inputs : List StepInput, Answers (runWith inputs s) fun t => t.fault = some r) ∧
    ∀ (a : Nat) (image : List Byte) (t : State), s.loadImage a image = .next t → t.fault = some r

/-- 20_memory.md R72: fetch at the last even address succeeds, fetch at MEM_SIZE - 1 faults. -/
def Obligations.FetchAtTheTopOfMemory : Prop :=
  ∀ s : State,
    (s.pc.toNat = 0xFFE → s.fetch = some (word (s.byte 0xFFE) (s.byte 0xFFF))) ∧
    (s.pc.toNat = 0xFFF → s.fetch = none ∧
      (s.running → Answers (step s) fun t => t.fault = some ⟨.invalid_address, 0xFFF#16⟩))

/-- 60_exceptions.md R262 and 30_encoding.md R100: an undecodable word faults at the pre-fetch pc. -/
def Obligations.UndecodableWordRecordsInvalidInstruction : Prop :=
  ∀ s : State, s.running → s.pc.toNat + 2 ≤ 4096 →
    decode (word (s.byte s.pc.toNat) (s.byte (s.pc.toNat + 1))) = none →
    advanced s = false ∧ Answers (step s) fun t => t.fault = some ⟨.invalid_instruction, s.pc⟩

/-- 10_state.md R26: the recorded address is the `pc` at the start of the failing step, whichever part of it failed. -/
def Obligations.FaultAddressIsThePcOfTheFailingStep : Prop :=
  ∀ (s t : State) (r : FaultRecord), s.running → step s = .next t → t.fault = some r → r.address = s.pc

/-- 60_exceptions.md R268, R275: an executed instruction records exactly the fault of the table, and none otherwise. -/
def Obligations.EveryInstructionRecordsExactlyTheTabledFault : Prop :=
  ∀ (s : State) (i : Instr), s.running →
    Answers (exec i s) fun t => t.fault = (tabledFault s i).map fun k => ⟨k, s.pc⟩

/-- 60_exceptions.md R262, R263: exactly when a step reports "advanced"; that a step waiting for a key does is decision D27
(log entry 15). -/
def Obligations.StepAdvancesExactlyOnSuccess : Prop :=
  ∀ s : State, advanced s = true ↔
    s.running ∧ s.pc.toNat + 2 ≤ 4096 ∧
    ∃ i, decode (word (s.byte s.pc.toNat) (s.byte (s.pc.toNat + 1))) = some i ∧ tabledFault s i = none

/-- 60_exceptions.md R262, R265: every step of every state answers a next state, a recorded fault being one (log entry
1). -/
def Obligations.EveryStepAnswersANextState : Prop :=
  ∀ s : State, Answers (step s) fun _ => True

/-! ### Invariants -/

/-- Construction meets the invariant (10_state.md R53), for every admissible configuration. -/
def Obligations.ConstructedMachineMeetsTheInvariant : Prop :=
  ∀ (cfg : Config) (s : State), construct cfg = .next s → Inv s

/-- 10_state.md R53, R34, as an invariant of the step from every state that meets it. That the state after a fault meets it
too is the model's choice (log entry 2). Memory's canonical form and the admissible configuration are part of it (log
entries 4, 8), and its `pc` bound and CD = CS rest on decisions D11 and D10 (log entries 10, 14). -/
def Obligations.StepKeepsTheInvariant : Prop :=
  ∀ s t : State, Inv s → step s = .next t → Inv t

/-- 10_state.md R53: it holds in every state a host can bring a machine to, halted ones included (log entry 2). The hosts
are those whose loads stay within the limits (log entry 26). -/
def Obligations.ReachableStatesMeetTheInvariant : Prop :=
  ∀ s : State, Reachable s → Inv s

/-- 10_state.md R39: no step changes the configuration, a failing one included (log entry 2), and neither does what the
host presents or loads. -/
def Obligations.ConfigurationIsFixed : Prop :=
  ∀ (s : State), (∀ t, step s = .next t → t.cfg = s.cfg) ∧
    (∀ inputs : List StepInput, Answers (runWith inputs s) fun t => t.cfg = s.cfg) ∧
    ∀ (a : Nat) (image : List Byte) (t : State), s.loadImage a image = .next t → t.cfg = s.cfg

/-! ### Encoding -/

/-- 30_encoding.md R95, at every operand value of all 34 operators. -/
def Obligations.DecodeOfEncodeIsTheInstruction : Prop :=
  ∀ i : Instr, i.wellFormed = true → decode (encode i) = some i

/-- 30_encoding.md R95, R98: encoding what a word decodes to gives the word back, but for the don't-care nibble of the
shifts, which comes back 0. -/
def Obligations.EncodeOfDecodeIsTheWord : Prop :=
  ∀ (w : Word) (i : Instr), decode w = some i →
    encode i = match i with
      | .shr_v _ | .shl_v _ => w &&& 0xFF0F#16
      | _ => w

/-- 30_encoding.md R92, R93, R103: a decoded word carries the fixed bits of its row of spec/opcode_table.json, and its
operands are within their fields. -/
def Obligations.DecodedWordCarriesItsRowsFixedBits : Prop :=
  ∀ (w : Word) (i : Instr), decode w = some i → i.wellFormed = true ∧ w &&& (tableRow i).2 = (tableRow i).1

/-- 30_encoding.md R96, R97, R99, R100: the undecodable words, group by group. -/
def Obligations.UndecodableWordsAreExactlyTheUnassigned : Prop :=
  ∀ w : Word, decode w = none ↔
    (w.toNat < 0x1000 ∧ w ≠ 0x00E0#16 ∧ w ≠ 0x00EE#16) ∨
    ((w.toNat / 4096 = 5 ∨ w.toNat / 4096 = 9) ∧ w.toNat % 16 ≠ 0) ∨
    (w.toNat / 4096 = 8 ∧ w.toNat % 16 ∈ [8, 9, 10, 11, 12, 13, 15]) ∨
    (w.toNat / 4096 = 14 ∧ w.toNat % 256 ∉ [0x9E, 0xA1]) ∨
    (w.toNat / 4096 = 15 ∧ w.toNat % 256 ∉ [0x07, 0x0A, 0x15, 0x18, 0x1E, 0x29, 0x33, 0x55, 0x65])

/-- One word of each family, written out from 30_encoding.md R93 and opcode_table.json. -/
def Obligations.WordsWrittenOutDecode : Prop :=
  decode 0x1ABC#16 = some (.jmp 0xABC#12) ∧ decode 0xE59E#16 = some (.skp_v 5) ∧
  decode 0x8127#16 = some (.subn_v_v 1 2) ∧ decode 0x8156#16 = some (.shr_v 1) ∧
  decode 0xC30F#16 = some (.rnd_v_b 3 0x0F#8) ∧ decode 0xD125#16 = some (.drw 1 2 5) ∧
  decode 0xFA65#16 = some (.ld_v_mem 10) ∧ decode 0x5121#16 = none

/-- 00_scope.md R14. -/
def Obligations.WordIsHighByteFirst : Prop :=
  ∀ hi lo : Byte, (word hi lo).toNat = hi.toNat * 256 + lo.toNat

/-! ### Construction and the host's load -/

/-- 70_reset_and_hazards.md R300 with 10_state.md R42 to R50. The values of V, I, DT, ST, CD, CS, pc, display and keys are
the spec's decisions D4 to D8 (log entry 5). -/
def Obligations.ConstructionGivesTheResetValues : Prop :=
  ∀ cfg : Config, admissible cfg = true → Answers (construct cfg) fun s =>
    (∀ x, s.reg x = 0x00#8) ∧ s.I = 0x0000#16 ∧ s.DT = 0x00#8 ∧ s.ST = 0x00#8 ∧ s.pc = 0x200#16 ∧
    s.stack = [] ∧ (∀ c r, c < 64 → r < 32 → s.disp.pixel c r = some false) ∧ (∀ k, s.keyDown k = false) ∧
    s.CD = 0 ∧ s.CS = 0 ∧ s.fault = none ∧ s.cfg = cfg

/-- 20_memory.md R66: zero except the font table, FONT_GLYPHS at FONT_BASE to FONT_BASE + 79. -/
def Obligations.ConstructedMemoryIsZeroExceptTheFont : Prop :=
  ∀ (cfg : Config) (s : State), construct cfg = .next s →
    cfg.glyphs.length = 80 ∧
    (∀ k (h : k < cfg.glyphs.length), s.byte (cfg.fontBase + k) = cfg.glyphs[k]) ∧
    ∀ a, a < cfg.fontBase ∨ cfg.fontBase + 80 ≤ a → s.byte a = 0x00#8

/-- 00_scope.md R11, 70_reset_and_hazards.md R301 (decision D34): a font that does not fit builds no machine. -/
def Obligations.FontThatDoesNotFitBuildsNoMachine : Prop :=
  ∀ cfg : Config, 4096 < cfg.fontBase + 80 → construct cfg = .refused .fontDoesNotFit

/-- 60_exceptions.md R290: an image inside memory and outside the font region is stored as it is, and nothing else
changes. That any other image is refused whole is the model's choice (log entry 26). -/
def Obligations.LoadStoresTheImageOutsideTheFont : Prop :=
  ∀ (s : State) (a : Nat) (image : List Byte), s.mem.wf s.cfg →
    (a + image.length ≤ 4096 →
      (∀ j, j < image.length → ¬ (s.cfg.fontBase ≤ a + j ∧ a + j < s.cfg.fontBase + 80)) →
      Answers (s.loadImage a image) fun t =>
        (∀ j (h : j < image.length), t.byte (a + j) = image[j]) ∧ SameBytesOutside a image.length s t ∧
        SameBut [.memory] [] s t) ∧
    (4096 < a + image.length → s.loadImage a image = .refused .imageOutOfBounds) ∧
    (a + image.length ≤ 4096 →
      (∃ j, j < image.length ∧ s.cfg.fontBase ≤ a + j ∧ a + j < s.cfg.fontBase + 80) →
      s.loadImage a image = .refused .imageInFontRegion)

/-! ### Control flow -/

/-- 40_control_flow.md R120. -/
def Obligations.JmpSetsPcToItsAddress : Prop :=
  ∀ (s : State) (nnn : Field12), Answers (exec (.jmp nnn) s) fun t =>
    t.pc.toNat = nnn.toNat ∧ SameBut [.pc] [] s t

/-- 40_control_flow.md R121: with room, the return address (masked, D11) goes on top; with 16 entries, `full_stack`. -/
def Obligations.CallPushesTheReturnAddress : Prop :=
  ∀ (s : State) (nnn : Field12),
    (s.stack.length < 16 → Answers (exec (.call nnn) s) fun t =>
      t.pc.toNat = nnn.toNat ∧ (∃ a : Word, a.toNat = (s.pc.toNat + 2) % 4096 ∧ t.stack = s.stack ++ [a]) ∧
      SameBut [.pc, .stack] [] s t) ∧
    (s.stack.length = 16 → Answers (exec (.call nnn) s) fun t => t.fault = some ⟨.full_stack, s.pc⟩)

/-- 40_control_flow.md R122: the top goes to `pc` as it is; with no entry, `empty_stack`. -/
def Obligations.RetPopsIntoPc : Prop :=
  ∀ s : State,
    (∀ (below : List Word) (top : Word), s.stack = below ++ [top] → Answers (exec .ret s) fun t =>
      t.pc = top ∧ t.stack = below ∧ SameBut [.pc, .stack] [] s t) ∧
    (s.stack = [] → Answers (exec .ret s) fun t => t.fault = some ⟨.empty_stack, s.pc⟩)

/-- 40_control_flow.md R123: always V0, masked to 12 bits (D11). -/
def Obligations.JmpV0AddsV0ToItsAddress : Prop :=
  ∀ (s : State) (nnn : Field12), Answers (exec (.jmp_v0 nnn) s) fun t =>
    t.pc.toNat = ((s.reg 0).toNat + nnn.toNat) % 4096 ∧ SameBut [.pc] [] s t

/-- 40_control_flow.md R121, R122: a call and the return it pairs with go on after the call, with the stack as before. -/
def Obligations.RetUndoesCall : Prop :=
  ∀ (s t : State) (nnn : Field12), s.stack.length < 16 → exec (.call nnn) s = .next t →
    Answers (exec .ret t) fun u => u.pc.toNat = (s.pc.toNat + 2) % 4096 ∧ SameBut [.pc] [] s u

/-! ### Skips -/

/-- 41_skips.md R140 to R143: 4 when the condition holds, else 2, masked (D11), and nothing else changes. -/
def Obligations.RegisterSkipsAdvanceByFourOrTwo : Prop :=
  ∀ (s : State) (x y : Reg) (kk : Byte),
    let skips (i : Instr) (c : Prop) := Answers (exec i s) fun t =>
      (c → t.pc.toNat = (s.pc.toNat + 4) % 4096) ∧ (¬ c → t.pc.toNat = (s.pc.toNat + 2) % 4096) ∧
      SameBut [.pc] [] s t
    skips (.se_v_b x kk) (s.reg x = kk) ∧ skips (.sne_v_b x kk) (s.reg x ≠ kk) ∧
    skips (.se_v_v x y) (s.reg x = s.reg y) ∧ skips (.sne_v_v x y) (s.reg x ≠ s.reg y)

/-- 41_skips.md R144, R145: an index of 16 or more is never pressed. -/
def Obligations.KeySkipsTestTheKeyARegisterNames : Prop :=
  ∀ (s : State) (x : Reg),
    let pressed := ∃ h : (s.reg x).toNat < 16, s.keys[(s.reg x).toNat] = true
    let skips (i : Instr) (c : Prop) := Answers (exec i s) fun t =>
      (c → t.pc.toNat = (s.pc.toNat + 4) % 4096) ∧ (¬ c → t.pc.toNat = (s.pc.toNat + 2) % 4096) ∧
      SameBut [.pc] [] s t
    skips (.skp_v x) pressed ∧ skips (.sknp_v x) (¬ pressed)

/-! ### Data movement and ALU -/

/-- 42_alu.md R160 to R165: the result in V[x]; no other register, VF included, changes (for the logic operations decision
D18, log entry 17). -/
def Obligations.MovesAndLogicWriteOnlyTheirDestination : Prop :=
  ∀ (s : State) (x y : Reg) (kk : Byte),
    let gives (i : Instr) (v : Nat) := Answers (exec i s) fun t =>
      (t.reg x).toNat = v ∧ t.pc.toNat = (s.pc.toNat + 2) % 4096 ∧ SameBut [.pc] [x] s t
    gives (.ld_v_b x kk) kk.toNat ∧
    gives (.add_v_b x kk) (((s.reg x).toNat + kk.toNat) % 256) ∧
    gives (.ld_v_v x y) (s.reg y).toNat ∧
    gives (.or_v_v x y) ((s.reg x).toNat ||| (s.reg y).toNat) ∧
    gives (.and_v_v x y) ((s.reg x).toNat &&& (s.reg y).toNat) ∧
    gives (.xor_v_v x y) ((s.reg x).toNat ^^^ (s.reg y).toNat)

/-- 42_alu.md R166: the wrapped sum and the carry, both from the original operands. -/
def Obligations.AddSetsSumAndCarry : Prop :=
  ∀ (s : State) (x y : Reg), Answers (exec (.add_v_v x y) s) fun t =>
    (t.reg x).toNat = ((s.reg x).toNat + (s.reg y).toNat) % 256 ∧
    (x ≠ 15 → (t.reg 15).toNat = if (s.reg x).toNat + (s.reg y).toNat > 255 then 1 else 0) ∧
    t.pc.toNat = (s.pc.toNat + 2) % 4096 ∧ SameBut [.pc] [x, 15] s t

/-- 42_alu.md R167, R168: the wrapped difference and the not-borrow, both from the original operands; the destination of
both is V[x] (for `subn_v_v` the spec derives it). -/
def Obligations.SubtractSetsDifferenceAndNotBorrow : Prop :=
  ∀ (s : State) (x y : Reg),
    let gives (i : Instr) (a b : Nat) := Answers (exec i s) fun t =>
      ((t.reg x).toNat : Int) = ((a : Int) - b) % 256 ∧
      (x ≠ 15 → (t.reg 15).toNat = if a < b then 0 else 1) ∧
      t.pc.toNat = (s.pc.toNat + 2) % 4096 ∧ SameBut [.pc] [x, 15] s t
    gives (.sub_v_v x y) (s.reg x).toNat (s.reg y).toNat ∧ gives (.subn_v_v x y) (s.reg y).toNat (s.reg x).toNat

/-- 42_alu.md R169, R170: V[x] is source and destination (decision D16, log entry 11); VF is the bit shifted out. -/
def Obligations.ShiftsSetResultAndShiftedOutBit : Prop :=
  ∀ (s : State) (x : Reg),
    let gives (i : Instr) (result flag : Nat) := Answers (exec i s) fun t =>
      (t.reg x).toNat = result ∧ (x ≠ 15 → (t.reg 15).toNat = flag) ∧
      t.pc.toNat = (s.pc.toNat + 2) % 4096 ∧ SameBut [.pc] [x, 15] s t
    gives (.shr_v x) ((s.reg x).toNat / 2) ((s.reg x).toNat % 2) ∧
    gives (.shl_v x) ((s.reg x).toNat * 2 % 256) ((s.reg x).toNat / 128)

/-- 10_state.md R31 with the flags and results of 42_alu.md R166 to R170: both come from the operand values before either
write, the flag goes to VF first and the result to V[x] second, so with `x` = 15 the final VF is the result. That the
shifts take V[x] is decision D16 (log entry 11); the destination of `subn_v_v` and the ordering of `shl_v` are derived by
the spec (R168, R170). -/
def Obligations.FlagIsWrittenBeforeTheResult : Prop :=
  ∀ (s : State) (x y : Reg),
    let a := (s.reg x).toNat
    let b := (s.reg y).toNat
    let flagFirst (i : Instr) (flag result : Nat) := Answers (exec i s) fun t =>
      t.V = (s.V.set 15 (BitVec.ofNat 8 flag)).set x (BitVec.ofNat 8 result)
    flagFirst (.add_v_v x y) (if a + b > 255 then 1 else 0) (a + b) ∧
    flagFirst (.sub_v_v x y) (if a < b then 0 else 1) (256 + a - b) ∧
    flagFirst (.subn_v_v x y) (if b < a then 0 else 1) (256 + b - a) ∧
    flagFirst (.shr_v x) (a % 2) (a / 2) ∧
    flagFirst (.shl_v x) (a / 128) (a * 2)

/-- 42_alu.md R171, R172: `I` from the field, or `I` plus V[x] masked to 12 bits; no register changes (for `add_i_v` and VF
decision D19, log entry 17). -/
def Obligations.IndexInstructionsWriteOnlyI : Prop :=
  ∀ (s : State) (x : Reg) (nnn : Field12),
    let gives (i : Instr) (v : Nat) := Answers (exec i s) fun t =>
      t.I.toNat = v ∧ t.pc.toNat = (s.pc.toNat + 2) % 4096 ∧ SameBut [.pc, .index] [] s t
    gives (.ld_i nnn) nnn.toNat ∧ gives (.add_i_v x) ((s.I.toNat + (s.reg x).toNat) % 4096)

/-! ### Random -/

/-- 43_random.md R200, R201: V[x] is the step's random Byte masked by kk, for every Byte the host presents; with none
presented it is some Byte, masked likewise. -/
def Obligations.RndMasksTheRandomByte : Prop :=
  ∀ (s : State) (x : Reg) (kk : Byte),
    let gives (r : Byte) := Answers (exec (.rnd_v_b x kk) s) fun t =>
      t.reg x = r &&& kk ∧ t.rnd = none ∧ t.pc.toNat = (s.pc.toNat + 2) % 4096 ∧ SameBut [.pc, .random] [x] s t
    (∀ r, s.rnd = some r → gives r) ∧ (s.rnd = none → ∃ r, gives r)

/-! ### Display -/

/-- 44_display.md R210. -/
def Obligations.ClsClearsEveryPixel : Prop :=
  ∀ s : State, Answers (exec .cls s) fun t =>
    (∀ c r, c < 64 → r < 32 → t.disp.pixel c r = some false) ∧
    t.pc.toNat = (s.pc.toNat + 2) % 4096 ∧ SameBut [.pc, .display] [] s t

/-- 44_display.md R211: every pixel is its old value XOR the sprite bit that falls on it, VF is 1 exactly when a set
pixel meets a set sprite bit on the display, and the coordinates are those before VF is cleared and do not wrap (D22).
Height 0 changes no pixel and clears VF (D23). -/
def Obligations.DrwXorsTheSpriteAndReportsCollision : Prop :=
  ∀ (s : State) (x y : Reg) (n : Nat), n ≤ 15 → s.spans n →
    Answers (exec (.drw x y n) s) fun t =>
      (∀ c r old, s.disp.pixel c r = some old →
        t.disp.pixel c r = some (old ^^ spriteAt s (s.reg x).toNat (s.reg y).toNat n c r)) ∧
      ((∃ c r, s.disp.pixel c r = some true ∧ spriteAt s (s.reg x).toNat (s.reg y).toNat n c r = true) →
        t.reg 15 = 0x01#8) ∧
      ((¬ ∃ c r, s.disp.pixel c r = some true ∧ spriteAt s (s.reg x).toNat (s.reg y).toNat n c r = true) →
        t.reg 15 = 0x00#8) ∧
      t.pc.toNat = (s.pc.toNat + 2) % 4096 ∧ SameBut [.pc, .display] [15] s t

/-- 44_display.md R214: the same sprite drawn again, with the display, `I`, the sprite Bytes and the coordinates
unchanged between, restores the display; the second draw reports a collision exactly when a set sprite bit fell on a
pixel that was clear before the first. The coordinates (read before VF is cleared, not wrapped) are decision D22, height 0
decision D23 (log entry 16). -/
def Obligations.DrawingTwiceRestoresTheDisplay : Prop :=
  ∀ (s t u : State) (x y : Reg) (n : Nat), n ≤ 15 → s.spans n → exec (.drw x y n) s = .next t →
    u.disp = t.disp → u.I = s.I → u.reg x = s.reg x → u.reg y = s.reg y →
    (∀ j, j < n → u.byte (s.I.toNat + j) = s.byte (s.I.toNat + j)) →
    Answers (exec (.drw x y n) u) fun v =>
      v.disp = s.disp ∧
      (v.reg 15 = 0x01#8 ↔
        ∃ c r, s.disp.pixel c r = some false ∧ spriteAt s (s.reg x).toNat (s.reg y).toNat n c r = true)

/-- 44_display.md R212: the accessor yields a readable, mutable cell on the display and nothing off it, and a sprite
pixel off the display is neither read for collision nor written. -/
def Obligations.OffDisplayPixelIsSkipped : Prop :=
  ∀ (v : Canvas) (px py : Nat) (bit : Bool),
    (64 ≤ px ∨ 32 ≤ py → v.disp.pixel px py = none ∧ drawPixel px py bit v = v) ∧
    (px < 64 → py < 32 → (∃ old, v.disp.pixel px py = some old) ∧
      ∀ b, (v.disp.setPixel px py b).pixel px py = some b)

/-! ### Keypad, timers and memory transfer -/

/-- 45_keypad_timer_misc.md R230 (the destination is decision D21): the least pressed key goes to V[x]; with no key
pressed nothing changes at all. -/
def Obligations.WaitForKeyTakesTheLeastPressedKey : Prop :=
  ∀ (s : State) (x : Reg),
    (∀ k : Fin 16, s.keys[k] = true → (∀ j : Fin 16, j < k → s.keys[j] = false) →
      Answers (exec (.ld_v_k x) s) fun t =>
        (t.reg x).toNat = k.val ∧ t.pc.toNat = (s.pc.toNat + 2) % 4096 ∧ SameBut [.pc] [x] s t) ∧
    ((∀ j : Fin 16, s.keys[j] = false) → exec (.ld_v_k x) s = .next s)

/-- 60_exceptions.md R263 (decision D27), 70_reset_and_hazards.md R315: a step that waits for a key is a successful step
that changes only the timers. -/
def Obligations.WaitingStepOnlyAdvancesTheTimers : Prop :=
  ∀ (s : State) (x : Reg), s.running → s.pc.toNat + 2 ≤ 4096 →
    decode (word (s.byte s.pc.toNat) (s.byte (s.pc.toNat + 1))) = some (.ld_v_k x) →
    (∀ j : Fin 16, s.keys[j] = false) → advanced s = true ∧ step s = .next s.timerAdvance

/-- 45_keypad_timer_misc.md R231 to R233: plain copies; the cycle counters stay (D10). -/
def Obligations.TimerInstructionsCopy : Prop :=
  ∀ (s : State) (x : Reg),
    (Answers (exec (.ld_v_dt x) s) fun t =>
      t.reg x = s.DT ∧ t.pc.toNat = (s.pc.toNat + 2) % 4096 ∧ SameBut [.pc] [x] s t) ∧
    (Answers (exec (.ld_dt_v x) s) fun t =>
      t.DT = s.reg x ∧ t.pc.toNat = (s.pc.toNat + 2) % 4096 ∧ SameBut [.pc, .delay] [] s t) ∧
    (Answers (exec (.ld_st_v x) s) fun t =>
      t.ST = s.reg x ∧ t.pc.toNat = (s.pc.toNat + 2) % 4096 ∧ SameBut [.pc, .sound] [] s t)

/-- 45_keypad_timer_misc.md R234: the glyph's address for a digit; `invalid_digit` for any other value. -/
def Obligations.FontLookupGivesTheGlyphAddress : Prop :=
  ∀ (s : State) (x : Reg),
    ((s.reg x).toNat ≤ 0x0F → s.cfg.fontBase + 80 ≤ 4096 → Answers (exec (.ld_f_v x) s) fun t =>
      t.I.toNat = s.cfg.fontBase + 5 * (s.reg x).toNat ∧ t.pc.toNat = (s.pc.toNat + 2) % 4096 ∧
      SameBut [.pc, .index] [] s t) ∧
    (0x0F < (s.reg x).toNat → Answers (exec (.ld_f_v x) s) fun t => t.fault = some ⟨.invalid_digit, s.pc⟩)

/-- 45_keypad_timer_misc.md R235: three decimal digits to I, I + 1, I + 2 and no other Byte; out of range it faults. -/
def Obligations.BcdStoreWritesThreeDigits : Prop :=
  ∀ (s : State) (x : Reg),
    (s.spans 3 → Answers (exec (.ld_b_v x) s) fun t =>
      (s.mem.wf s.cfg →
        (t.byte s.I.toNat).toNat = (s.reg x).toNat / 100 ∧
        (t.byte (s.I.toNat + 1)).toNat = (s.reg x).toNat / 10 % 10 ∧
        (t.byte (s.I.toNat + 2)).toNat = (s.reg x).toNat % 10) ∧
      SameBytesOutside s.I.toNat 3 s t ∧
      t.pc.toNat = (s.pc.toNat + 2) % 4096 ∧ SameBut [.pc, .memory] [] s t) ∧
    (¬ s.spans 3 → Answers (exec (.ld_b_v x) s) fun t => t.fault = some ⟨.invalid_address, s.pc⟩)

/-- 45_keypad_timer_misc.md R236: V0..Vx to the x + 1 Bytes from I, in order; I unchanged (D20); out of range it faults. -/
def Obligations.RegisterStoreWritesTheRange : Prop :=
  ∀ (s : State) (x : Reg),
    (s.spans (x.val + 1) → Answers (exec (.ld_mem_v x) s) fun t =>
      (s.mem.wf s.cfg → ∀ j : Reg, j ≤ x → t.byte (s.I.toNat + j.val) = s.reg j) ∧
      SameBytesOutside s.I.toNat (x.val + 1) s t ∧
      t.pc.toNat = (s.pc.toNat + 2) % 4096 ∧ SameBut [.pc, .memory] [] s t) ∧
    (¬ s.spans (x.val + 1) → Answers (exec (.ld_mem_v x) s) fun t => t.fault = some ⟨.invalid_address, s.pc⟩)

/-- 45_keypad_timer_misc.md R237: the x + 1 Bytes from I to V0..Vx, in order; I unchanged (D20); out of range it faults. -/
def Obligations.RegisterLoadReadsTheRange : Prop :=
  ∀ (s : State) (x : Reg),
    (s.spans (x.val + 1) → Answers (exec (.ld_v_mem x) s) fun t =>
      (∀ j : Reg, j ≤ x → t.reg j = s.byte (s.I.toNat + j.val)) ∧ (∀ j : Reg, x < j → t.reg j = s.reg j) ∧
      t.pc.toNat = (s.pc.toNat + 2) % 4096 ∧ SameBut [.pc] ((List.finRange 16).filter (· ≤ x)) s t) ∧
    (¬ s.spans (x.val + 1) → Answers (exec (.ld_v_mem x) s) fun t => t.fault = some ⟨.invalid_address, s.pc⟩)

/-- 45_keypad_timer_misc.md R236, R237: what a register store put in memory, a register load of the same range reads
back, whatever the registers held in between. -/
def Obligations.RegisterLoadUndoesRegisterStore : Prop :=
  ∀ (s t u : State) (x : Reg), s.mem.wf s.cfg → s.spans (x.val + 1) → exec (.ld_mem_v x) s = .next t →
    u.I = s.I → (∀ a, u.byte a = t.byte a) →
    Answers (exec (.ld_v_mem x) u) fun v => ∀ j : Reg, j ≤ x → v.reg j = s.reg j

/-- 20_memory.md R79, 70_reset_and_hazards.md R313: a Byte pair that a register store wrote is what the next fetch there
reads. -/
def Obligations.StoredBytesAreFetched : Prop :=
  ∀ (s t : State) (x j : Reg), s.mem.wf s.cfg → s.spans (x.val + 1) → exec (.ld_mem_v x) s = .next t →
    ∀ k : Reg, k ≤ x → k.val = j.val + 1 → ∀ target : Word, target.toNat = s.I.toNat + j.val →
      (t.jumpTo target).fetch = some (word (s.reg j) (s.reg k))

/-! ### Timers -/

/-- 60_exceptions.md R270 (order and reset as decision D10, log entry 14): each counter goes up by one; where the test
holds it resets and its timer falls by one, floor 0; nothing else changes. -/
def Obligations.TimerAdvanceCountsAndDecrements : Prop :=
  ∀ s : State,
    let c := s.CD + 1
    let d := s.CS + 1
    let t := s.timerAdvance
    (s.cfg.masterClockRate / c ≤ 60 → t.CD = 0 ∧ t.DT.toNat = s.DT.toNat - 1) ∧
    (60 < s.cfg.masterClockRate / c → t.CD = c ∧ t.DT = s.DT) ∧
    (s.cfg.masterClockRate / d ≤ 60 → t.CS = 0 ∧ t.ST.toNat = s.ST.toNat - 1) ∧
    (60 < s.cfg.masterClockRate / d → t.CS = d ∧ t.ST = s.ST) ∧
    SameBut [.delay, .sound, .counters] [] s t

/-- 60_exceptions.md R272: with P the least c >= 1 with MASTER_CLOCK_RATE / c <= 60, from counters at 0 the timers stay
for P - 1 advances and fall on the P-th, and so every P advances, floor 0. That the counter is incremented before the test
and resets also when its timer is 0 is decision D10 (log entry 14). -/
def Obligations.TimersFallEveryPAdvances : Prop :=
  ∀ (s : State) (P : Nat), s.CD = 0 → s.CS = 0 → 1 ≤ P → s.cfg.masterClockRate / P ≤ 60 →
    (∀ c, 1 ≤ c → c < P → 60 < s.cfg.masterClockRate / c) →
    ∀ m k, k < P →
      let t := State.timerAdvance^[m * P + k] s
      t.CD = k ∧ t.CS = k ∧ t.DT.toNat = s.DT.toNat - m ∧ t.ST.toNat = s.ST.toNat - m

/-- 70_reset_and_hazards.md R312: a value written to a timer can fall in the same step, when the counter test fires. That
the write leaves the counter alone is decision D10 (log entry 14). -/
def Obligations.WrittenTimerCanFallInTheSameStep : Prop :=
  ∀ (s : State) (x : Reg), s.running → s.pc.toNat + 2 ≤ 4096 →
    (decode (word (s.byte s.pc.toNat) (s.byte (s.pc.toNat + 1))) = some (.ld_dt_v x) →
      s.cfg.masterClockRate / (s.CD + 1) ≤ 60 →
      Answers (step s) fun t => t.DT.toNat = (s.reg x).toNat - 1 ∧ t.CD = 0) ∧
    (decode (word (s.byte s.pc.toNat) (s.byte (s.pc.toNat + 1))) = some (.ld_st_v x) →
      s.cfg.masterClockRate / (s.CS + 1) ≤ 60 →
      Answers (step s) fun t => t.ST.toNat = (s.reg x).toNat - 1 ∧ t.CS = 0)

/-! ### Rules about all instructions -/

/-- 10_state.md R22, R23, R33 to R39, 20_memory.md R61: an instruction that records no fault changes only the parts and
registers whose rules name it as a writer. For VF after the logic operations and `add_i_v`, and for `I` after the range
transfers, that is decisions D18 to D20 (log entry 17). -/
def Obligations.OnlyItsWritersChangeAPart : Prop :=
  ∀ (i : Instr) (s t : State), s.running → exec i s = .next t → t.fault = none →
    SameBut (writtenParts i) (writtenRegs i) s t

/-- 10_state.md R28: an instruction that does not redirect control advances the pc by 2, masked (D11). -/
def Obligations.PcAdvancesByTwoUnlessRedirected : Prop :=
  ∀ (i : Instr) (s t : State), redirects i = false → s.running → exec i s = .next t → t.fault = none →
    t.pc.toNat = (s.pc.toNat + 2) % 4096

/-- 10_state.md R37, 70_reset_and_hazards.md R314: no step writes the keypad state, and only `skp_v`, `sknp_v` and
`ld_v_k` read it. The second clause compares whole outcomes: that the states after a fault agree, which R267 leaves at
any value, is the model's choice of a free value (log entry 2), and that they agree, and `rnd_v_b` with no Byte presented
takes the same Byte, rests on the counter the two runs share (log entry 22). -/
def Obligations.KeypadIsReadByThreeAndWrittenByNone : Prop :=
  (∀ s t : State, step s = .next t → t.keys = s.keys) ∧
  ∀ (i : Instr) (s : State) (keys : Vector Bool 16), readsKeys i = false →
    exec i { s with keys := keys } = mapNext (fun t => { t with keys := keys }) (exec i s)

/-- 10_state.md R33, R34: beside the timers' own writers `ld_st_v` and `ld_dt_v`, left out here and given by
`TimerInstructionsCopy`, `ST` is read by no instruction and `DT` only by `ld_v_dt`; the cycle counters are read by none.
It compares whole outcomes: that the states after a fault agree, which 60_exceptions.md R267 leaves at any value, is the
model's choice of a free value (log entry 2), and that they agree, and `rnd_v_b` with no Byte presented takes the same
Byte, rests on the counter the two runs share (log entry 22). -/
def Obligations.TimersAreReadOnlyByTheDelayRead : Prop :=
  ∀ (i : Instr) (s : State),
    (∀ b : Byte, (∀ x, i ≠ .ld_st_v x) →
      exec i { s with ST := b } = mapNext (fun t => { t with ST := b }) (exec i s)) ∧
    (∀ b : Byte, (∀ x, i ≠ .ld_v_dt x ∧ i ≠ .ld_dt_v x) →
      exec i { s with DT := b } = mapNext (fun t => { t with DT := b }) (exec i s)) ∧
    ∀ c d : Nat, exec i { s with CD := c, CS := d } = mapNext (fun t => { t with CD := c, CS := d }) (exec i s)

/-- 60_exceptions.md R269, 43_random.md R201: no instruction but `rnd_v_b` depends on the random Byte presented. It compares
whole outcomes: that the states after a fault agree, which R267 leaves at any value, is the model's choice of a free
value of the counter the two runs share (log entries 2, 22). -/
def Obligations.OnlyRndReadsTheRandomByte : Prop :=
  ∀ (i : Instr) (s : State) (r : Option Byte), (∀ x kk, i ≠ .rnd_v_b x kk) →
    exec i { s with rnd := r } = mapNext (fun t => { t with rnd := r }) (exec i s)
end

