-- ==== Sys2Proof/Laws/Decode.lean ====
section
/-! SUPPORT. The fields of an encoded word, shape by shape, and what the masks of opcode_table.json select. -/

namespace Sys2Proof

/-! ### The fields of a word built from nibbles -/

theorem toNat_ofNat16 {v : Nat} (h : v < 65536) : (BitVec.ofNat 16 v).toNat = v := by
  simp only [BitVec.toNat_ofNat]; omega

@[simp] theorem regOf_val (x : Reg) : regOf x.val = x := by
  simp [regOf]

/-- Shape A (30_encoding.md R92). -/
theorem fields_encodeA {op : Nat} (h : op < 16) (nnn : Field12) :
    bits (encodeA op nnn) 15 12 = op ∧ fieldNNN (encodeA op nnn) = nnn := by
  have hw : (encodeA op nnn).toNat = op * 4096 + nnn.toNat := toNat_ofNat16 (by omega)
  constructor
  · simp only [bits, hw]; omega
  · apply BitVec.eq_of_toNat_eq
    simp only [fieldNNN, bits, hw, BitVec.toNat_ofNat]; omega

/-- Shape RB. -/
theorem fields_encodeRB {op : Nat} (h : op < 16) (x : Reg) (kk : Byte) :
    bits (encodeRB op x kk) 15 12 = op ∧ fieldX (encodeRB op x kk) = x ∧ fieldKK (encodeRB op x kk) = kk := by
  have hw : (encodeRB op x kk).toNat = op * 4096 + x.val * 256 + kk.toNat := toNat_ofNat16 (by omega)
  refine ⟨?_, ?_, ?_⟩
  · simp only [bits, hw]; omega
  · rw [fieldX, show bits (encodeRB op x kk) 11 8 = x.val by simp only [bits, hw]; omega, regOf_val]
  · apply BitVec.eq_of_toNat_eq
    simp only [fieldKK, bits, hw, BitVec.toNat_ofNat]; omega

/-- Shapes RR and RRN. -/
theorem fields_encodeRRN {op : Nat} (h : op < 16) (x y : Reg) (n : Nat) :
    bits (encodeRRN op x y n) 15 12 = op ∧ fieldX (encodeRRN op x y n) = x ∧ fieldY (encodeRRN op x y n) = y ∧
      fieldN (encodeRRN op x y n) = n % 16 := by
  have hw : (encodeRRN op x y n).toNat = op * 4096 + x.val * 256 + y.val * 16 + n % 16 := toNat_ofNat16 (by omega)
  refine ⟨?_, ?_, ?_, ?_⟩
  · simp only [bits, hw]; omega
  · rw [fieldX, show bits (encodeRRN op x y n) 11 8 = x.val by simp only [bits, hw]; omega, regOf_val]
  · rw [fieldY, show bits (encodeRRN op x y n) 7 4 = y.val by simp only [bits, hw]; omega, regOf_val]
  · simp only [fieldN, bits, hw]; omega

/-- Shape R. -/
theorem fields_encodeR {op sub : Nat} (h : op < 16) (hs : sub < 256) (x : Reg) :
    bits (encodeR op x sub) 15 12 = op ∧ fieldX (encodeR op x sub) = x ∧ bits (encodeR op x sub) 7 0 = sub := by
  have hw : (encodeR op x sub).toNat = op * 4096 + x.val * 256 + sub := toNat_ofNat16 (by omega)
  refine ⟨?_, ?_, ?_⟩
  · simp only [bits, hw]; omega
  · rw [fieldX, show bits (encodeR op x sub) 11 8 = x.val by simp only [bits, hw]; omega, regOf_val]
  · simp only [bits, hw]; omega

/-! ### What a mask selects -/

theorem and_F000 (w : Word) : (w &&& 0xF000#16).toNat = w.toNat / 4096 * 4096 := by
  have h : w &&& 0xF000#16 = w >>> 12 <<< 12 := by
    ext i hi
    interval_cases i <;> simp
  rw [h]
  simp only [BitVec.toNat_shiftLeft, BitVec.toNat_ushiftRight, Nat.shiftRight_eq_div_pow, Nat.shiftLeft_eq]
  omega

theorem and_000F (w : Word) : (w &&& 0x000F#16).toNat = w.toNat % 16 := by
  simpa using Nat.and_two_pow_sub_one_eq_mod w.toNat 4

theorem and_00FF (w : Word) : (w &&& 0x00FF#16).toNat = w.toNat % 256 := by
  simpa using Nat.and_two_pow_sub_one_eq_mod w.toNat 8

/-- A mask that is the union of two disjoint masks selects the sum of what they select. -/
theorem and_union (w a b : Word) (h : a &&& b = 0#16) (hlt : (w &&& a).toNat + (w &&& b).toNat < 65536) :
    (w &&& (a ||| b)).toNat = (w &&& a).toNat + (w &&& b).toNat := by
  have hd : (w &&& a) &&& (w &&& b) = 0#16 := by
    have : (w &&& a) &&& (w &&& b) = w &&& (a &&& b) := by
      ext i; simp only [BitVec.getElem_and]; cases w[i] <;> simp
    rw [this, h]; simp
  have hor : w &&& (a ||| b) = (w &&& a) + (w &&& b) := by
    rw [BitVec.add_eq_or_of_and_eq_zero _ _ hd]
    ext i; simp only [BitVec.getElem_and, BitVec.getElem_or]; cases w[i] <;> simp
  rw [hor, BitVec.toNat_add, Nat.mod_eq_of_lt hlt]

theorem and_F00F (w : Word) : (w &&& 0xF00F#16).toNat = w.toNat / 4096 * 4096 + w.toNat % 16 := by
  rw [← and_F000, ← and_000F]
  exact and_union w 0xF000#16 0x000F#16 rfl (by rw [and_F000, and_000F]; omega)

theorem and_F0FF (w : Word) : (w &&& 0xF0FF#16).toNat = w.toNat / 4096 * 4096 + w.toNat % 256 := by
  rw [← and_F000, ← and_00FF]
  exact and_union w 0xF000#16 0x00FF#16 rfl (by rw [and_F000, and_00FF]; omega)

end Sys2Proof
end

