-- ==== Sys2Proof/Laws/State.lean ====
section
/-! SUPPORT. One lemma per field per update of the state, so that no proof unfolds a record update, and what a register
reads after a write. -/

namespace Sys2Proof.Machine

variable (s : State)

/-! #### setReg -/

@[simp] theorem State.setReg_V (x : Reg) (b : Byte) : (s.setReg x b).V = s.V.set x b := rfl
@[simp] theorem State.setReg_I (x : Reg) (b : Byte) : (s.setReg x b).I = s.I := rfl
@[simp] theorem State.setReg_DT (x : Reg) (b : Byte) : (s.setReg x b).DT = s.DT := rfl
@[simp] theorem State.setReg_ST (x : Reg) (b : Byte) : (s.setReg x b).ST = s.ST := rfl
@[simp] theorem State.setReg_pc (x : Reg) (b : Byte) : (s.setReg x b).pc = s.pc := rfl
@[simp] theorem State.setReg_mem (x : Reg) (b : Byte) : (s.setReg x b).mem = s.mem := rfl
@[simp] theorem State.setReg_stack (x : Reg) (b : Byte) : (s.setReg x b).stack = s.stack := rfl
@[simp] theorem State.setReg_disp (x : Reg) (b : Byte) : (s.setReg x b).disp = s.disp := rfl
@[simp] theorem State.setReg_keys (x : Reg) (b : Byte) : (s.setReg x b).keys = s.keys := rfl
@[simp] theorem State.setReg_CD (x : Reg) (b : Byte) : (s.setReg x b).CD = s.CD := rfl
@[simp] theorem State.setReg_CS (x : Reg) (b : Byte) : (s.setReg x b).CS = s.CS := rfl
@[simp] theorem State.setReg_fault (x : Reg) (b : Byte) : (s.setReg x b).fault = s.fault := rfl
@[simp] theorem State.setReg_cfg (x : Reg) (b : Byte) : (s.setReg x b).cfg = s.cfg := rfl
@[simp] theorem State.setReg_rnd (x : Reg) (b : Byte) : (s.setReg x b).rnd = s.rnd := rfl
@[simp] theorem State.setReg_freeIndex (x : Reg) (b : Byte) : (s.setReg x b).freeIndex = s.freeIndex := rfl

/-! #### setI -/

@[simp] theorem State.setI_V (a : Word) : (s.setI a).V = s.V := rfl
@[simp] theorem State.setI_I (a : Word) : (s.setI a).I = a := rfl
@[simp] theorem State.setI_DT (a : Word) : (s.setI a).DT = s.DT := rfl
@[simp] theorem State.setI_ST (a : Word) : (s.setI a).ST = s.ST := rfl
@[simp] theorem State.setI_pc (a : Word) : (s.setI a).pc = s.pc := rfl
@[simp] theorem State.setI_mem (a : Word) : (s.setI a).mem = s.mem := rfl
@[simp] theorem State.setI_stack (a : Word) : (s.setI a).stack = s.stack := rfl
@[simp] theorem State.setI_disp (a : Word) : (s.setI a).disp = s.disp := rfl
@[simp] theorem State.setI_keys (a : Word) : (s.setI a).keys = s.keys := rfl
@[simp] theorem State.setI_CD (a : Word) : (s.setI a).CD = s.CD := rfl
@[simp] theorem State.setI_CS (a : Word) : (s.setI a).CS = s.CS := rfl
@[simp] theorem State.setI_fault (a : Word) : (s.setI a).fault = s.fault := rfl
@[simp] theorem State.setI_cfg (a : Word) : (s.setI a).cfg = s.cfg := rfl
@[simp] theorem State.setI_rnd (a : Word) : (s.setI a).rnd = s.rnd := rfl
@[simp] theorem State.setI_freeIndex (a : Word) : (s.setI a).freeIndex = s.freeIndex := rfl

/-! #### jumpTo -/

@[simp] theorem State.jumpTo_V (a : Word) : (s.jumpTo a).V = s.V := rfl
@[simp] theorem State.jumpTo_I (a : Word) : (s.jumpTo a).I = s.I := rfl
@[simp] theorem State.jumpTo_DT (a : Word) : (s.jumpTo a).DT = s.DT := rfl
@[simp] theorem State.jumpTo_ST (a : Word) : (s.jumpTo a).ST = s.ST := rfl
@[simp] theorem State.jumpTo_pc (a : Word) : (s.jumpTo a).pc = a := rfl
@[simp] theorem State.jumpTo_mem (a : Word) : (s.jumpTo a).mem = s.mem := rfl
@[simp] theorem State.jumpTo_stack (a : Word) : (s.jumpTo a).stack = s.stack := rfl
@[simp] theorem State.jumpTo_disp (a : Word) : (s.jumpTo a).disp = s.disp := rfl
@[simp] theorem State.jumpTo_keys (a : Word) : (s.jumpTo a).keys = s.keys := rfl
@[simp] theorem State.jumpTo_CD (a : Word) : (s.jumpTo a).CD = s.CD := rfl
@[simp] theorem State.jumpTo_CS (a : Word) : (s.jumpTo a).CS = s.CS := rfl
@[simp] theorem State.jumpTo_fault (a : Word) : (s.jumpTo a).fault = s.fault := rfl
@[simp] theorem State.jumpTo_cfg (a : Word) : (s.jumpTo a).cfg = s.cfg := rfl
@[simp] theorem State.jumpTo_rnd (a : Word) : (s.jumpTo a).rnd = s.rnd := rfl
@[simp] theorem State.jumpTo_freeIndex (a : Word) : (s.jumpTo a).freeIndex = s.freeIndex := rfl

/-! #### advance -/

@[simp] theorem State.advance_V (k : Nat) : (s.advance k).V = s.V := rfl
@[simp] theorem State.advance_I (k : Nat) : (s.advance k).I = s.I := rfl
@[simp] theorem State.advance_DT (k : Nat) : (s.advance k).DT = s.DT := rfl
@[simp] theorem State.advance_ST (k : Nat) : (s.advance k).ST = s.ST := rfl
@[simp] theorem State.advance_pc (k : Nat) : (s.advance k).pc = mask12 (s.pc.toNat + k) := rfl
@[simp] theorem State.advance_mem (k : Nat) : (s.advance k).mem = s.mem := rfl
@[simp] theorem State.advance_stack (k : Nat) : (s.advance k).stack = s.stack := rfl
@[simp] theorem State.advance_disp (k : Nat) : (s.advance k).disp = s.disp := rfl
@[simp] theorem State.advance_keys (k : Nat) : (s.advance k).keys = s.keys := rfl
@[simp] theorem State.advance_CD (k : Nat) : (s.advance k).CD = s.CD := rfl
@[simp] theorem State.advance_CS (k : Nat) : (s.advance k).CS = s.CS := rfl
@[simp] theorem State.advance_fault (k : Nat) : (s.advance k).fault = s.fault := rfl
@[simp] theorem State.advance_cfg (k : Nat) : (s.advance k).cfg = s.cfg := rfl
@[simp] theorem State.advance_rnd (k : Nat) : (s.advance k).rnd = s.rnd := rfl
@[simp] theorem State.advance_freeIndex (k : Nat) : (s.advance k).freeIndex = s.freeIndex := rfl

/-! #### skipIf -/

@[simp] theorem State.skipIf_V (c : Bool) : (s.skipIf c).V = s.V := rfl
@[simp] theorem State.skipIf_I (c : Bool) : (s.skipIf c).I = s.I := rfl
@[simp] theorem State.skipIf_DT (c : Bool) : (s.skipIf c).DT = s.DT := rfl
@[simp] theorem State.skipIf_ST (c : Bool) : (s.skipIf c).ST = s.ST := rfl
@[simp] theorem State.skipIf_pc (c : Bool) : (s.skipIf c).pc = mask12 (s.pc.toNat + if c then 4 else 2) := rfl
@[simp] theorem State.skipIf_mem (c : Bool) : (s.skipIf c).mem = s.mem := rfl
@[simp] theorem State.skipIf_stack (c : Bool) : (s.skipIf c).stack = s.stack := rfl
@[simp] theorem State.skipIf_disp (c : Bool) : (s.skipIf c).disp = s.disp := rfl
@[simp] theorem State.skipIf_keys (c : Bool) : (s.skipIf c).keys = s.keys := rfl
@[simp] theorem State.skipIf_CD (c : Bool) : (s.skipIf c).CD = s.CD := rfl
@[simp] theorem State.skipIf_CS (c : Bool) : (s.skipIf c).CS = s.CS := rfl
@[simp] theorem State.skipIf_fault (c : Bool) : (s.skipIf c).fault = s.fault := rfl
@[simp] theorem State.skipIf_cfg (c : Bool) : (s.skipIf c).cfg = s.cfg := rfl
@[simp] theorem State.skipIf_rnd (c : Bool) : (s.skipIf c).rnd = s.rnd := rfl
@[simp] theorem State.skipIf_freeIndex (c : Bool) : (s.skipIf c).freeIndex = s.freeIndex := rfl

/-! #### push -/

@[simp] theorem State.push_V (a : Word) : (s.push a).V = s.V := rfl
@[simp] theorem State.push_I (a : Word) : (s.push a).I = s.I := rfl
@[simp] theorem State.push_DT (a : Word) : (s.push a).DT = s.DT := rfl
@[simp] theorem State.push_ST (a : Word) : (s.push a).ST = s.ST := rfl
@[simp] theorem State.push_pc (a : Word) : (s.push a).pc = s.pc := rfl
@[simp] theorem State.push_mem (a : Word) : (s.push a).mem = s.mem := rfl
@[simp] theorem State.push_stack (a : Word) : (s.push a).stack = s.stack ++ [a] := rfl
@[simp] theorem State.push_disp (a : Word) : (s.push a).disp = s.disp := rfl
@[simp] theorem State.push_keys (a : Word) : (s.push a).keys = s.keys := rfl
@[simp] theorem State.push_CD (a : Word) : (s.push a).CD = s.CD := rfl
@[simp] theorem State.push_CS (a : Word) : (s.push a).CS = s.CS := rfl
@[simp] theorem State.push_fault (a : Word) : (s.push a).fault = s.fault := rfl
@[simp] theorem State.push_cfg (a : Word) : (s.push a).cfg = s.cfg := rfl
@[simp] theorem State.push_rnd (a : Word) : (s.push a).rnd = s.rnd := rfl
@[simp] theorem State.push_freeIndex (a : Word) : (s.push a).freeIndex = s.freeIndex := rfl

/-! #### popped -/

@[simp] theorem State.popped_V : (s.popped).V = s.V := rfl
@[simp] theorem State.popped_I : (s.popped).I = s.I := rfl
@[simp] theorem State.popped_DT : (s.popped).DT = s.DT := rfl
@[simp] theorem State.popped_ST : (s.popped).ST = s.ST := rfl
@[simp] theorem State.popped_pc : (s.popped).pc = s.pc := rfl
@[simp] theorem State.popped_mem : (s.popped).mem = s.mem := rfl
@[simp] theorem State.popped_stack : (s.popped).stack = s.stack.dropLast := rfl
@[simp] theorem State.popped_disp : (s.popped).disp = s.disp := rfl
@[simp] theorem State.popped_keys : (s.popped).keys = s.keys := rfl
@[simp] theorem State.popped_CD : (s.popped).CD = s.CD := rfl
@[simp] theorem State.popped_CS : (s.popped).CS = s.CS := rfl
@[simp] theorem State.popped_fault : (s.popped).fault = s.fault := rfl
@[simp] theorem State.popped_cfg : (s.popped).cfg = s.cfg := rfl
@[simp] theorem State.popped_rnd : (s.popped).rnd = s.rnd := rfl
@[simp] theorem State.popped_freeIndex : (s.popped).freeIndex = s.freeIndex := rfl

/-! #### setBytes -/

@[simp] theorem State.setBytes_V (a : Nat) (bs : List Byte) : (s.setBytes a bs).V = s.V := rfl
@[simp] theorem State.setBytes_I (a : Nat) (bs : List Byte) : (s.setBytes a bs).I = s.I := rfl
@[simp] theorem State.setBytes_DT (a : Nat) (bs : List Byte) : (s.setBytes a bs).DT = s.DT := rfl
@[simp] theorem State.setBytes_ST (a : Nat) (bs : List Byte) : (s.setBytes a bs).ST = s.ST := rfl
@[simp] theorem State.setBytes_pc (a : Nat) (bs : List Byte) : (s.setBytes a bs).pc = s.pc := rfl
@[simp] theorem State.setBytes_mem (a : Nat) (bs : List Byte) : (s.setBytes a bs).mem = s.mem.writeBytes s.cfg a bs := rfl
@[simp] theorem State.setBytes_stack (a : Nat) (bs : List Byte) : (s.setBytes a bs).stack = s.stack := rfl
@[simp] theorem State.setBytes_disp (a : Nat) (bs : List Byte) : (s.setBytes a bs).disp = s.disp := rfl
@[simp] theorem State.setBytes_keys (a : Nat) (bs : List Byte) : (s.setBytes a bs).keys = s.keys := rfl
@[simp] theorem State.setBytes_CD (a : Nat) (bs : List Byte) : (s.setBytes a bs).CD = s.CD := rfl
@[simp] theorem State.setBytes_CS (a : Nat) (bs : List Byte) : (s.setBytes a bs).CS = s.CS := rfl
@[simp] theorem State.setBytes_fault (a : Nat) (bs : List Byte) : (s.setBytes a bs).fault = s.fault := rfl
@[simp] theorem State.setBytes_cfg (a : Nat) (bs : List Byte) : (s.setBytes a bs).cfg = s.cfg := rfl
@[simp] theorem State.setBytes_rnd (a : Nat) (bs : List Byte) : (s.setBytes a bs).rnd = s.rnd := rfl
@[simp] theorem State.setBytes_freeIndex (a : Nat) (bs : List Byte) : (s.setBytes a bs).freeIndex = s.freeIndex := rfl

/-! #### flagThenResult -/

@[simp] theorem State.flagThenResult_V (x : Reg) (f : Bool) (b : Byte) : (s.flagThenResult x f b).V = (s.V.set 15 (flagByte f)).set x b := rfl
@[simp] theorem State.flagThenResult_I (x : Reg) (f : Bool) (b : Byte) : (s.flagThenResult x f b).I = s.I := rfl
@[simp] theorem State.flagThenResult_DT (x : Reg) (f : Bool) (b : Byte) : (s.flagThenResult x f b).DT = s.DT := rfl
@[simp] theorem State.flagThenResult_ST (x : Reg) (f : Bool) (b : Byte) : (s.flagThenResult x f b).ST = s.ST := rfl
@[simp] theorem State.flagThenResult_pc (x : Reg) (f : Bool) (b : Byte) : (s.flagThenResult x f b).pc = s.pc := rfl
@[simp] theorem State.flagThenResult_mem (x : Reg) (f : Bool) (b : Byte) : (s.flagThenResult x f b).mem = s.mem := rfl
@[simp] theorem State.flagThenResult_stack (x : Reg) (f : Bool) (b : Byte) : (s.flagThenResult x f b).stack = s.stack := rfl
@[simp] theorem State.flagThenResult_disp (x : Reg) (f : Bool) (b : Byte) : (s.flagThenResult x f b).disp = s.disp := rfl
@[simp] theorem State.flagThenResult_keys (x : Reg) (f : Bool) (b : Byte) : (s.flagThenResult x f b).keys = s.keys := rfl
@[simp] theorem State.flagThenResult_CD (x : Reg) (f : Bool) (b : Byte) : (s.flagThenResult x f b).CD = s.CD := rfl
@[simp] theorem State.flagThenResult_CS (x : Reg) (f : Bool) (b : Byte) : (s.flagThenResult x f b).CS = s.CS := rfl
@[simp] theorem State.flagThenResult_fault (x : Reg) (f : Bool) (b : Byte) : (s.flagThenResult x f b).fault = s.fault := rfl
@[simp] theorem State.flagThenResult_cfg (x : Reg) (f : Bool) (b : Byte) : (s.flagThenResult x f b).cfg = s.cfg := rfl
@[simp] theorem State.flagThenResult_rnd (x : Reg) (f : Bool) (b : Byte) : (s.flagThenResult x f b).rnd = s.rnd := rfl
@[simp] theorem State.flagThenResult_freeIndex (x : Reg) (f : Bool) (b : Byte) : (s.flagThenResult x f b).freeIndex = s.freeIndex := rfl

/-! #### loadRegs -/

@[simp] theorem State.loadRegs_I (x : Reg) (a : Nat) : (s.loadRegs x a).I = s.I := rfl
@[simp] theorem State.loadRegs_DT (x : Reg) (a : Nat) : (s.loadRegs x a).DT = s.DT := rfl
@[simp] theorem State.loadRegs_ST (x : Reg) (a : Nat) : (s.loadRegs x a).ST = s.ST := rfl
@[simp] theorem State.loadRegs_pc (x : Reg) (a : Nat) : (s.loadRegs x a).pc = s.pc := rfl
@[simp] theorem State.loadRegs_mem (x : Reg) (a : Nat) : (s.loadRegs x a).mem = s.mem := rfl
@[simp] theorem State.loadRegs_stack (x : Reg) (a : Nat) : (s.loadRegs x a).stack = s.stack := rfl
@[simp] theorem State.loadRegs_disp (x : Reg) (a : Nat) : (s.loadRegs x a).disp = s.disp := rfl
@[simp] theorem State.loadRegs_keys (x : Reg) (a : Nat) : (s.loadRegs x a).keys = s.keys := rfl
@[simp] theorem State.loadRegs_CD (x : Reg) (a : Nat) : (s.loadRegs x a).CD = s.CD := rfl
@[simp] theorem State.loadRegs_CS (x : Reg) (a : Nat) : (s.loadRegs x a).CS = s.CS := rfl
@[simp] theorem State.loadRegs_fault (x : Reg) (a : Nat) : (s.loadRegs x a).fault = s.fault := rfl
@[simp] theorem State.loadRegs_cfg (x : Reg) (a : Nat) : (s.loadRegs x a).cfg = s.cfg := rfl
@[simp] theorem State.loadRegs_rnd (x : Reg) (a : Nat) : (s.loadRegs x a).rnd = s.rnd := rfl
@[simp] theorem State.loadRegs_freeIndex (x : Reg) (a : Nat) : (s.loadRegs x a).freeIndex = s.freeIndex := rfl

/-! #### drawSprite -/

@[simp] theorem State.drawSprite_V (x0 y0 : Nat) (rows : List Byte) : (s.drawSprite x0 y0 rows).V = s.V.set 15 (flagByte (drawRows x0 y0 rows ⟨s.disp, false⟩).hit) := rfl
@[simp] theorem State.drawSprite_I (x0 y0 : Nat) (rows : List Byte) : (s.drawSprite x0 y0 rows).I = s.I := rfl
@[simp] theorem State.drawSprite_DT (x0 y0 : Nat) (rows : List Byte) : (s.drawSprite x0 y0 rows).DT = s.DT := rfl
@[simp] theorem State.drawSprite_ST (x0 y0 : Nat) (rows : List Byte) : (s.drawSprite x0 y0 rows).ST = s.ST := rfl
@[simp] theorem State.drawSprite_pc (x0 y0 : Nat) (rows : List Byte) : (s.drawSprite x0 y0 rows).pc = s.pc := rfl
@[simp] theorem State.drawSprite_mem (x0 y0 : Nat) (rows : List Byte) : (s.drawSprite x0 y0 rows).mem = s.mem := rfl
@[simp] theorem State.drawSprite_stack (x0 y0 : Nat) (rows : List Byte) : (s.drawSprite x0 y0 rows).stack = s.stack := rfl
@[simp] theorem State.drawSprite_disp (x0 y0 : Nat) (rows : List Byte) : (s.drawSprite x0 y0 rows).disp = (drawRows x0 y0 rows ⟨s.disp, false⟩).disp := rfl
@[simp] theorem State.drawSprite_keys (x0 y0 : Nat) (rows : List Byte) : (s.drawSprite x0 y0 rows).keys = s.keys := rfl
@[simp] theorem State.drawSprite_CD (x0 y0 : Nat) (rows : List Byte) : (s.drawSprite x0 y0 rows).CD = s.CD := rfl
@[simp] theorem State.drawSprite_CS (x0 y0 : Nat) (rows : List Byte) : (s.drawSprite x0 y0 rows).CS = s.CS := rfl
@[simp] theorem State.drawSprite_fault (x0 y0 : Nat) (rows : List Byte) : (s.drawSprite x0 y0 rows).fault = s.fault := rfl
@[simp] theorem State.drawSprite_cfg (x0 y0 : Nat) (rows : List Byte) : (s.drawSprite x0 y0 rows).cfg = s.cfg := rfl
@[simp] theorem State.drawSprite_rnd (x0 y0 : Nat) (rows : List Byte) : (s.drawSprite x0 y0 rows).rnd = s.rnd := rfl
@[simp] theorem State.drawSprite_freeIndex (x0 y0 : Nat) (rows : List Byte) : (s.drawSprite x0 y0 rows).freeIndex = s.freeIndex := rfl

/-! #### timerAdvance -/

@[simp] theorem State.timerAdvance_V : (s.timerAdvance).V = s.V := rfl
@[simp] theorem State.timerAdvance_I : (s.timerAdvance).I = s.I := rfl
@[simp] theorem State.timerAdvance_DT : (s.timerAdvance).DT = (timerTick s.cfg.masterClockRate s.CD s.DT).2 := rfl
@[simp] theorem State.timerAdvance_ST : (s.timerAdvance).ST = (timerTick s.cfg.masterClockRate s.CS s.ST).2 := rfl
@[simp] theorem State.timerAdvance_pc : (s.timerAdvance).pc = s.pc := rfl
@[simp] theorem State.timerAdvance_mem : (s.timerAdvance).mem = s.mem := rfl
@[simp] theorem State.timerAdvance_stack : (s.timerAdvance).stack = s.stack := rfl
@[simp] theorem State.timerAdvance_disp : (s.timerAdvance).disp = s.disp := rfl
@[simp] theorem State.timerAdvance_keys : (s.timerAdvance).keys = s.keys := rfl
@[simp] theorem State.timerAdvance_CD : (s.timerAdvance).CD = (timerTick s.cfg.masterClockRate s.CD s.DT).1 := rfl
@[simp] theorem State.timerAdvance_CS : (s.timerAdvance).CS = (timerTick s.cfg.masterClockRate s.CS s.ST).1 := rfl
@[simp] theorem State.timerAdvance_fault : (s.timerAdvance).fault = s.fault := rfl
@[simp] theorem State.timerAdvance_cfg : (s.timerAdvance).cfg = s.cfg := rfl
@[simp] theorem State.timerAdvance_rnd : (s.timerAdvance).rnd = s.rnd := rfl
@[simp] theorem State.timerAdvance_freeIndex : (s.timerAdvance).freeIndex = s.freeIndex := rfl

/-! #### raise -/

@[simp] theorem State.raise_I (k : FaultKind) : (s.raise k).I = (Config.afterFault s.freeIndex).I.setWidth 16 := rfl
@[simp] theorem State.raise_DT (k : FaultKind) : (s.raise k).DT = s.DT := rfl
@[simp] theorem State.raise_ST (k : FaultKind) : (s.raise k).ST = s.ST := rfl
@[simp] theorem State.raise_pc (k : FaultKind) : (s.raise k).pc = s.pc := rfl
@[simp] theorem State.raise_mem (k : FaultKind) : (s.raise k).mem = (Config.afterFault s.freeIndex).writes.foldl (fun m w => m.write s.cfg w.1.val w.2) s.mem := rfl
@[simp] theorem State.raise_stack (k : FaultKind) : (s.raise k).stack = ((Config.afterFault s.freeIndex).stack.take stackDepth).map (·.setWidth 16) := rfl
@[simp] theorem State.raise_keys (k : FaultKind) : (s.raise k).keys = s.keys := rfl
@[simp] theorem State.raise_CD (k : FaultKind) : (s.raise k).CD = s.CD := rfl
@[simp] theorem State.raise_CS (k : FaultKind) : (s.raise k).CS = s.CS := rfl
@[simp] theorem State.raise_fault (k : FaultKind) : (s.raise k).fault = some ⟨k, s.pc⟩ := rfl
@[simp] theorem State.raise_cfg (k : FaultKind) : (s.raise k).cfg = s.cfg := rfl
@[simp] theorem State.raise_rnd (k : FaultKind) : (s.raise k).rnd = s.rnd := rfl
@[simp] theorem State.raise_freeIndex (k : FaultKind) : (s.raise k).freeIndex = s.freeIndex + 1 := rfl

/-! #### present -/

@[simp] theorem State.present_V (input : StepInput) : (s.present input).V = s.V := rfl
@[simp] theorem State.present_I (input : StepInput) : (s.present input).I = s.I := rfl
@[simp] theorem State.present_DT (input : StepInput) : (s.present input).DT = s.DT := rfl
@[simp] theorem State.present_ST (input : StepInput) : (s.present input).ST = s.ST := rfl
@[simp] theorem State.present_pc (input : StepInput) : (s.present input).pc = s.pc := rfl
@[simp] theorem State.present_mem (input : StepInput) : (s.present input).mem = s.mem := rfl
@[simp] theorem State.present_stack (input : StepInput) : (s.present input).stack = s.stack := rfl
@[simp] theorem State.present_disp (input : StepInput) : (s.present input).disp = s.disp := rfl
@[simp] theorem State.present_keys (input : StepInput) : (s.present input).keys = input.keys := rfl
@[simp] theorem State.present_CD (input : StepInput) : (s.present input).CD = s.CD := rfl
@[simp] theorem State.present_CS (input : StepInput) : (s.present input).CS = s.CS := rfl
@[simp] theorem State.present_fault (input : StepInput) : (s.present input).fault = s.fault := rfl
@[simp] theorem State.present_cfg (input : StepInput) : (s.present input).cfg = s.cfg := rfl
@[simp] theorem State.present_rnd (input : StepInput) : (s.present input).rnd = some input.random := rfl
@[simp] theorem State.present_freeIndex (input : StepInput) : (s.present input).freeIndex = s.freeIndex := rfl

/-! #### randomTaken -/

@[simp] theorem State.randomTaken_V : s.randomTaken.V = s.V := by
  unfold State.randomTaken; split <;> rfl
@[simp] theorem State.randomTaken_I : s.randomTaken.I = s.I := by
  unfold State.randomTaken; split <;> rfl
@[simp] theorem State.randomTaken_DT : s.randomTaken.DT = s.DT := by
  unfold State.randomTaken; split <;> rfl
@[simp] theorem State.randomTaken_ST : s.randomTaken.ST = s.ST := by
  unfold State.randomTaken; split <;> rfl
@[simp] theorem State.randomTaken_pc : s.randomTaken.pc = s.pc := by
  unfold State.randomTaken; split <;> rfl
@[simp] theorem State.randomTaken_mem : s.randomTaken.mem = s.mem := by
  unfold State.randomTaken; split <;> rfl
@[simp] theorem State.randomTaken_stack : s.randomTaken.stack = s.stack := by
  unfold State.randomTaken; split <;> rfl
@[simp] theorem State.randomTaken_disp : s.randomTaken.disp = s.disp := by
  unfold State.randomTaken; split <;> rfl
@[simp] theorem State.randomTaken_keys : s.randomTaken.keys = s.keys := by
  unfold State.randomTaken; split <;> rfl
@[simp] theorem State.randomTaken_CD : s.randomTaken.CD = s.CD := by
  unfold State.randomTaken; split <;> rfl
@[simp] theorem State.randomTaken_CS : s.randomTaken.CS = s.CS := by
  unfold State.randomTaken; split <;> rfl
@[simp] theorem State.randomTaken_fault : s.randomTaken.fault = s.fault := by
  unfold State.randomTaken; split <;> rfl
@[simp] theorem State.randomTaken_cfg : s.randomTaken.cfg = s.cfg := by
  unfold State.randomTaken; split <;> rfl

theorem State.randomTaken_of_presented {r : Byte} (h : s.rnd = some r) : s.randomTaken = { s with rnd := none } := by
  simp [State.randomTaken, h]

theorem State.randomTaken_of_none (h : s.rnd = none) :
    s.randomTaken = { s with freeIndex := s.freeIndex + 1 } := by
  simp [State.randomTaken, h]

/-! #### Registers -/

theorem State.reg_setReg (x y : Reg) (b : Byte) : (s.setReg x b).reg y = if y = x then b else s.reg y := by
  simp only [State.reg, State.setReg, Fin.getElem_fin, Vector.getElem_set, Fin.ext_iff, eq_comm]

@[simp] theorem State.reg_setReg_self (x : Reg) (b : Byte) : (s.setReg x b).reg x = b := by
  simp [State.reg_setReg]

theorem State.reg_setReg_ne {x y : Reg} (h : y ≠ x) (b : Byte) : (s.setReg x b).reg y = s.reg y := by
  simp [State.reg_setReg, h]

/-- Flag first, result second: the result wins in V[15] (10_state.md R31). -/
theorem State.reg_flagThenResult (x y : Reg) (f : Bool) (b : Byte) :
    (s.flagThenResult x f b).reg y = if y = x then b else if y = 15 then flagByte f else s.reg y := by
  simp [State.flagThenResult, State.reg_setReg, vf]

theorem State.reg_loadRegs (x y : Reg) (a : Nat) :
    (s.loadRegs x a).reg y = if y.val ≤ x.val then s.byte (a + y.val) else s.reg y := by
  simp [State.loadRegs, State.reg]

theorem State.reg_drawSprite (x0 y0 : Nat) (rows : List Byte) (y : Reg) :
    (s.drawSprite x0 y0 rows).reg y =
      if y = 15 then flagByte (drawRows x0 y0 rows ⟨s.disp, false⟩).hit else s.reg y := by
  exact State.reg_setReg s 15 y _

@[simp] theorem State.reg_setI (a : Word) (y : Reg) : (s.setI a).reg y = s.reg y := rfl
@[simp] theorem State.reg_jumpTo (a : Word) (y : Reg) : (s.jumpTo a).reg y = s.reg y := rfl
@[simp] theorem State.reg_advance (k : Nat) (y : Reg) : (s.advance k).reg y = s.reg y := rfl
@[simp] theorem State.reg_skipIf (c : Bool) (y : Reg) : (s.skipIf c).reg y = s.reg y := rfl
@[simp] theorem State.reg_push (a : Word) (y : Reg) : (s.push a).reg y = s.reg y := rfl
@[simp] theorem State.reg_popped (y : Reg) : (s.popped).reg y = s.reg y := rfl
@[simp] theorem State.reg_setBytes (a : Nat) (bs : List Byte) (y : Reg) : (s.setBytes a bs).reg y = s.reg y := rfl
@[simp] theorem State.reg_timerAdvance (y : Reg) : (s.timerAdvance).reg y = s.reg y := rfl
@[simp] theorem State.reg_present (input : StepInput) (y : Reg) : (s.present input).reg y = s.reg y := rfl
@[simp] theorem State.reg_randomTaken (y : Reg) : s.randomTaken.reg y = s.reg y := by
  simp [State.reg]

/-! #### Bytes of memory -/

@[simp] theorem State.byte_setReg (x : Reg) (b : Byte) (a' : Nat) : (s.setReg x b).byte a' = s.byte a' := rfl
@[simp] theorem State.byte_setI (a : Word) (a' : Nat) : (s.setI a).byte a' = s.byte a' := rfl
@[simp] theorem State.byte_jumpTo (a : Word) (a' : Nat) : (s.jumpTo a).byte a' = s.byte a' := rfl
@[simp] theorem State.byte_advance (k : Nat) (a' : Nat) : (s.advance k).byte a' = s.byte a' := rfl
@[simp] theorem State.byte_skipIf (c : Bool) (a' : Nat) : (s.skipIf c).byte a' = s.byte a' := rfl
@[simp] theorem State.byte_push (a : Word) (a' : Nat) : (s.push a).byte a' = s.byte a' := rfl
@[simp] theorem State.byte_popped (a' : Nat) : (s.popped).byte a' = s.byte a' := rfl
@[simp] theorem State.byte_flagThenResult (x : Reg) (f : Bool) (b : Byte) (a' : Nat) : (s.flagThenResult x f b).byte a' = s.byte a' := rfl
@[simp] theorem State.byte_loadRegs (x : Reg) (a : Nat) (a' : Nat) : (s.loadRegs x a).byte a' = s.byte a' := rfl
@[simp] theorem State.byte_drawSprite (x0 y0 : Nat) (rows : List Byte) (a' : Nat) : (s.drawSprite x0 y0 rows).byte a' = s.byte a' := rfl
@[simp] theorem State.byte_timerAdvance (a' : Nat) : (s.timerAdvance).byte a' = s.byte a' := rfl
@[simp] theorem State.byte_present (input : StepInput) (a' : Nat) : (s.present input).byte a' = s.byte a' := rfl
@[simp] theorem State.byte_randomTaken (a' : Nat) : s.randomTaken.byte a' = s.byte a' := by
  simp [State.byte]

end Sys2Proof.Machine
end

