-- ==== Sys2Proof/Laws/Memory.lean ====
section
/-! SUPPORT. Memory: a read after a write, and that every memory operation keeps the canonical form (log entry 8). -/

namespace Sys2Proof.Machine

variable {cfg : Config}

/-- A write leaves every other address alone. -/
theorem Memory.read_write_other (m : Memory) {a a' : Nat} (b : Byte) (h : a' ≠ a) :
    (m.write cfg a b).read cfg a' = m.read cfg a' := by
  induction m with
  | nil => unfold Memory.write; split <;> simp [Memory.read, h.symm]
  | cons c m ih =>
    obtain ⟨k, c⟩ := c
    unfold Memory.write
    split_ifs with h1 h2 h3 h4
    · rfl
    · simp [Memory.read, h.symm]
    · subst h3; simp [Memory.read, h.symm]
    · subst h3; simp [Memory.read, h.symm]
    · simp [Memory.read, ih]

/-- An address below every listed one reads as its construction content. -/
theorem Memory.read_of_lt (m : Memory) {a : Nat} (h : ∀ c ∈ m, a < c.1) : m.read cfg a = unlistedByte cfg a := by
  induction m with
  | nil => rfl
  | cons c m ih =>
    have hc := h c (by simp)
    rw [Memory.read, if_neg (by omega)]
    exact ih fun d hd => h d (by simp [hd])

/-- In canonical form a read gives the Byte written last. -/
theorem Memory.read_write_self {m : Memory} (hm : m.wf cfg) (a : Nat) (b : Byte) :
    (m.write cfg a b).read cfg a = b := by
  obtain ⟨hs, -⟩ := hm
  induction m with
  | nil => unfold Memory.write; split <;> simp_all [Memory.read]
  | cons c m ih =>
    obtain ⟨k, c⟩ := c
    rw [List.pairwise_cons] at hs
    unfold Memory.write
    split_ifs with h1 h2 h3 h4
    · rw [Memory.read_of_lt _ (by simp only [List.mem_cons]; rintro d (rfl | hd); · exact h1
                                  · exact h1.trans (hs.1 d hd)), h2]
    · simp [Memory.read]
    · subst h3
      rw [Memory.read_of_lt _ hs.1, h4]
    · simp [Memory.read]
    · rw [Memory.read, if_neg (by omega)]
      exact ih hs.2

/-- What a write can list: the cell written, and cells listed before. -/
theorem Memory.mem_write {m : Memory} {a : Nat} {b : Byte} {c : Host.Cell} (h : c ∈ m.write cfg a b) :
    c ∈ m ∨ c = (a, b) ∧ b ≠ unlistedByte cfg a := by
  induction m with
  | nil => unfold Memory.write at h; split at h <;> simp_all
  | cons d m ih =>
    obtain ⟨k, d⟩ := d
    unfold Memory.write at h
    split_ifs at h <;> simp_all <;> tauto

/-- A write inside memory keeps the canonical form. -/
theorem Memory.wf_write {m : Memory} (hm : m.wf cfg) {a : Nat} (ha : a < memSize) (b : Byte) :
    (m.write cfg a b).wf cfg := by
  refine ⟨?_, fun c hc => ?_⟩
  · obtain ⟨hs, -⟩ := hm
    induction m with
    | nil => unfold Memory.write; split <;> simp
    | cons c m ih =>
      obtain ⟨k, c⟩ := c
      have hs' := List.pairwise_cons.1 hs
      unfold Memory.write
      split_ifs with h1 h2 h3 h4
      · exact hs
      · refine List.pairwise_cons.2 ⟨fun d hd => ?_, hs⟩
        obtain rfl | hd := List.mem_cons.1 hd
        · exact h1
        · exact h1.trans (hs'.1 d hd)
      · exact hs'.2
      · subst h3; exact List.pairwise_cons.2 ⟨hs'.1, hs'.2⟩
      · refine List.pairwise_cons.2 ⟨fun d hd => ?_, ih hs'.2⟩
        obtain hd | ⟨rfl, -⟩ := Memory.mem_write hd
        · exact hs'.1 d hd
        · show k < a; omega
  · obtain hc | ⟨rfl, hb⟩ := Memory.mem_write hc
    · exact hm.2 c hc
    · exact ⟨ha, hb⟩

theorem Memory.wf_writeBytes {m : Memory} (hm : m.wf cfg) {a : Nat} {bs : List Byte} (ha : a + bs.length ≤ memSize) :
    (m.writeBytes cfg a bs).wf cfg := by
  induction bs generalizing m a with
  | nil => exact hm
  | cons b bs ih =>
    simp only [List.length_cons] at ha
    exact ih (Memory.wf_write hm (by omega) b) (by omega)

/-- The writes that a fault leaves unspecified keep the canonical form. -/
theorem Memory.wf_foldl_write {m : Memory} (hm : m.wf cfg) (ws : List (Fin 4096 × Byte)) :
    (ws.foldl (fun m w => m.write cfg w.1.val w.2) m).wf cfg := by
  induction ws generalizing m with
  | nil => exact hm
  | cons w ws ih => exact ih (Memory.wf_write hm w.1.isLt w.2)

theorem Memory.read_writeBytes_outside (m : Memory) {a a' : Nat} (bs : List Byte) (h : a' < a ∨ a + bs.length ≤ a') :
    (m.writeBytes cfg a bs).read cfg a' = m.read cfg a' := by
  induction bs generalizing m a with
  | nil => rfl
  | cons b bs ih =>
    simp only [List.length_cons] at h
    rw [Memory.writeBytes, ih _ (by omega), Memory.read_write_other _ _ (by omega)]

/-- The `j`-th Byte of a multi-Byte store reads back. -/
theorem Memory.read_writeBytes_inside {m : Memory} (hm : m.wf cfg) {a j : Nat} {bs : List Byte}
    (ha : a + bs.length ≤ memSize) (hj : j < bs.length) : (m.writeBytes cfg a bs).read cfg (a + j) = bs[j] := by
  induction bs generalizing m a j with
  | nil => simp at hj
  | cons b bs ih =>
    simp only [List.length_cons] at ha hj
    cases j with
    | zero =>
      rw [Nat.add_zero, Memory.writeBytes, Memory.read_writeBytes_outside _ _ (by omega), Memory.read_write_self hm]
      rfl
    | succ j =>
      rw [Memory.writeBytes, show a + (j + 1) = a + 1 + j by omega,
        ih (Memory.wf_write hm (by omega) b) (by omega) (by omega)]
      rfl

theorem State.byte_setBytes_outside (s : State) {a a' : Nat} {bs : List Byte} (h : a' < a ∨ a + bs.length ≤ a') :
    (s.setBytes a bs).byte a' = s.byte a' :=
  Memory.read_writeBytes_outside s.mem bs h

theorem State.byte_setBytes_inside (s : State) (hm : s.mem.wf s.cfg) {a j : Nat} {bs : List Byte}
    (ha : a + bs.length ≤ memSize) (hj : j < bs.length) : (s.setBytes a bs).byte (a + j) = bs[j] :=
  Memory.read_writeBytes_inside hm ha hj

/-- A machine as constructed lists nothing: its memory is in canonical form. -/
theorem State.ofConfig_mem_wf (cfg : Config) : (State.ofConfig cfg).mem.wf (State.ofConfig cfg).cfg := by
  simp [State.ofConfig, Memory.wf]

end Sys2Proof.Machine
end

