-- ==== Sys2Proof/Laws/Ops.lean ====
section
/-! SUPPORT. What each shared operation can do, said once: address arithmetic, the guarded range, fetch, taking a fault,
the keypad reads, one timer tick, the end of a step. -/

namespace Sys2Proof.Machine

/-! ### Addresses and flags -/

@[simp] theorem mask12_toNat (v : Nat) : (mask12 v).toNat = v % 4096 := by
  simp only [mask12, BitVec.toNat_ofNat]; omega

theorem mask12_le (v : Nat) : (mask12 v).toNat ≤ 0xFFF := by
  rw [mask12_toNat]; omega

@[simp] theorem addressOf_toNat (nnn : Field12) : (addressOf nnn).toNat = nnn.toNat := by
  simp only [addressOf, BitVec.toNat_setWidth]; omega

theorem addressOf_le (nnn : Field12) : (addressOf nnn).toNat ≤ 0xFFF := by
  rw [addressOf_toNat]; omega

theorem flagByte_of (f : Bool) : flagByte f = BitVec.ofNat 8 f.toNat := by cases f <;> rfl

@[simp] theorem inRange_iff (a n : Nat) : inRange a n = true ↔ a + n ≤ 4096 := by
  simp [inRange]

/-! ### The guarded range (20_memory.md R65) -/

theorem State.guardRange_inside (s t : State) {n : Nat} (h : s.I.toNat + n ≤ 4096) : s.guardRange n t = .next t := by
  simp [State.guardRange, h]

theorem State.guardRange_outside (s t : State) {n : Nat} (h : 4096 < s.I.toNat + n) :
    s.guardRange n t = .next (s.raise .invalid_address) := by
  simp [State.guardRange, Nat.not_le.2 h]

/-! ### Fetch (60_exceptions.md R262) -/

theorem State.fetch_inside (s : State) (h : s.pc.toNat + 2 ≤ 4096) :
    s.fetch = some (word (s.byte s.pc.toNat) (s.byte (s.pc.toNat + 1))) := by
  simp [State.fetch, h]

theorem State.fetch_outside (s : State) (h : 4096 < s.pc.toNat + 2) : s.fetch = none := by
  simp only [State.fetch, inRange_iff, Nat.not_le.2 h, if_false]

/-! ### Taking a fault (60_exceptions.md R264, R267): the limits that the free values keep -/

theorem State.raise_I_le (s : State) (k : FaultKind) : (s.raise k).I.toNat ≤ 0xFFF := by
  simp only [State.raise_I, BitVec.toNat_setWidth]; omega

theorem State.raise_stack_length (s : State) (k : FaultKind) : (s.raise k).stack.length ≤ 16 := by
  simp

theorem State.raise_stack_le (s : State) (k : FaultKind) : ∀ a ∈ (s.raise k).stack, a.toNat ≤ 0xFFF := by
  simp only [State.raise_stack, List.mem_map]
  rintro _ ⟨b, -, rfl⟩
  simp only [BitVec.toNat_setWidth]; omega

theorem State.raise_mem_wf (s : State) (k : FaultKind) (h : s.mem.wf s.cfg) : (s.raise k).mem.wf (s.raise k).cfg :=
  Memory.wf_foldl_write h _

/-! ### Keypad -/

theorem State.keyDown_of_lt (s : State) {k : Nat} (h : k < 16) : s.keyDown k = s.keys[k] := by
  simp [State.keyDown, h]

theorem State.keyDown_of_ge (s : State) {k : Nat} (h : 16 ≤ k) : s.keyDown k = false := by
  simp [State.keyDown, h]

/-- The key a wait takes is pressed, and no lower one is. -/
theorem State.lowestKey_eq_some (s : State) {k : Nat} :
    s.lowestKey = some k ↔ k < 16 ∧ s.keyDown k = true ∧ ∀ j, j < k → s.keyDown j = false := by
  simp only [State.lowestKey, List.find?_range_eq_some, Bool.not_eq_true', List.mem_range]
  tauto

theorem State.lowestKey_eq_none (s : State) : s.lowestKey = none ↔ ∀ j, j < 16 → s.keyDown j = false := by
  simp [State.lowestKey]

/-! ### Timers (60_exceptions.md R270) -/

theorem timerTick_fires {rate c : Nat} (h : rate / (c + 1) ≤ 60) (b : Byte) :
    (timerTick rate c b).1 = 0 ∧ (timerTick rate c b).2.toNat = b.toNat - 1 := by
  simp only [timerTick, h, if_true, true_and]
  split
  · bv_omega
  · omega

theorem timerTick_counts {rate c : Nat} (h : 60 < rate / (c + 1)) (b : Byte) : timerTick rate c b = (c + 1, b) := by
  simp [timerTick, Nat.not_le.2 h]

/-- After a tick a counter is at most the master clock rate: while it is above 0 the quotient is above 60. -/
theorem timerTick_counter_le (rate c : Nat) (b : Byte) : (timerTick rate c b).1 ≤ rate := by
  unfold timerTick
  split
  · exact Nat.zero_le _
  · rename_i h
    by_contra hc
    rw [Nat.div_eq_of_lt (by simpa using hc)] at h
    omega

/-! ### What an instruction, and a step, can do -/

/-- An instruction either records a fault and nothing else of its own, or answers a state in which the fault register,
the keypad, the configuration and the cycle counters are as before. -/
theorem exec_raises_or_succeeds (i : Instr) (s : State) :
    (∃ k, exec i s = .next (s.raise k)) ∨
    ∃ t, exec i s = .next t ∧ t.fault = s.fault ∧ t.keys = s.keys ∧ t.cfg = s.cfg ∧ t.CD = s.CD ∧ t.CS = s.CS := by
  have guarded (n : Nat) (t : State) (ht : t.fault = s.fault ∧ t.keys = s.keys ∧ t.cfg = s.cfg ∧ t.CD = s.CD ∧ t.CS = s.CS) :
      (∃ k, s.guardRange n t = .next (s.raise k)) ∨
      ∃ u, s.guardRange n t = .next u ∧ u.fault = s.fault ∧ u.keys = s.keys ∧ u.cfg = s.cfg ∧ u.CD = s.CD ∧ u.CS = s.CS := by
    unfold State.guardRange
    split
    · exact .inr ⟨t, rfl, ht⟩
    · exact .inl ⟨_, rfl⟩
  cases i with
  | call nnn =>
    simp only [exec, exec_call]
    split
    · exact .inl ⟨_, rfl⟩
    · exact .inr ⟨_, rfl, by simp⟩
  | ret =>
    simp only [exec, exec_ret]
    split
    · exact .inl ⟨_, rfl⟩
    · exact .inr ⟨_, rfl, by simp⟩
  | drw x y n =>
    simp only [exec, exec_drw]
    split
    · exact .inl ⟨_, rfl⟩
    · refine guarded _ _ ?_; simp
  | ld_f_v x =>
    simp only [exec, exec_ld_f_v]
    split
    · exact .inl ⟨_, rfl⟩
    · exact .inr ⟨_, rfl, by simp⟩
  | ld_v_k x =>
    simp only [exec, exec_ld_v_k]
    split
    · exact .inr ⟨_, rfl, by simp⟩
    · exact .inr ⟨_, rfl, by simp⟩
  | ld_b_v x =>
    simp only [exec, exec_ld_b_v]
    refine guarded _ _ ?_; simp
  | ld_mem_v x =>
    simp only [exec, exec_ld_mem_v]
    refine guarded _ _ ?_; simp
  | ld_v_mem x =>
    simp only [exec, exec_ld_v_mem]
    refine guarded _ _ ?_; simp
  | rnd_v_b x kk => exact .inr ⟨_, rfl, by simp⟩
  | _ => exact .inr ⟨_, rfl, rfl, rfl, rfl, rfl, rfl⟩

/-- The four ways a step goes (60_exceptions.md R262): halted, a failed fetch, an undecodable word, an instruction. -/
theorem step_cases (s : State) :
    (s.fault ≠ none ∧ step s = .next s) ∨
    (s.fault = none ∧ s.fetch = none ∧ step s = .next (s.raise .invalid_address)) ∨
    (∃ w, s.fault = none ∧ s.fetch = some w ∧ decode w = none ∧ step s = .next (s.raise .invalid_instruction)) ∨
    ∃ w i, s.fault = none ∧ s.fetch = some w ∧ decode w = some i ∧ step s = finishStep (exec i s) := by
  unfold step
  split
  · exact .inl ⟨by simp_all, rfl⟩
  · split
    · exact .inr (.inl ⟨‹_›, ‹_›, rfl⟩)
    · split
      · exact .inr (.inr (.inl ⟨_, ‹_›, ‹_›, ‹_›, rfl⟩))
      · exact .inr (.inr (.inr ⟨_, _, ‹_›, ‹_›, ‹_›, rfl⟩))

/-- After an instruction that recorded no fault the timers advance; after one that did, nothing more happens. -/
theorem finishStep_next (t : State) :
    finishStep (.next t) = .next (if t.fault = none then t.timerAdvance else t) := by
  cases h : t.fault <;> simp [finishStep, h]

end Sys2Proof.Machine
end

