-- ==== Sys2Proof/Laws/Draw.lean ====
section
/-! SUPPORT. The XOR rasterizer (44_display.md R211), pixel by pixel: what a row and a whole sprite do to the display and
to the collision flag. The loops of the model meet the closed form in which claims speak. -/

namespace Sys2Proof.Machine

/-! ### Pixels -/

theorem Display.pixel_eq (d : Display) {c r : Nat} (hc : c < 64) (hr : r < 32) : d.pixel c r = some d[r][c] := by
  simp [Display.pixel, hc, hr]

theorem Display.pixel_none (d : Display) {c r : Nat} (h : 64 ≤ c ∨ 32 ≤ r) : d.pixel c r = none := by
  unfold Display.pixel
  by_cases hr : r < 32
  · simp [hr, show ¬ c < 64 by omega]
  · simp [hr]

theorem Display.pixel_isSome {d : Display} {c r : Nat} {b : Bool} (h : d.pixel c r = some b) : c < 64 ∧ r < 32 := by
  by_contra hc
  rw [d.pixel_none (by omega)] at h
  simp at h

/-- Two displays with the same pixels are the same. -/
theorem Display.ext_pixel {d e : Display} (h : ∀ c r, d.pixel c r = e.pixel c r) : d = e := by
  refine Vector.ext fun r hr => Vector.ext fun c hc => ?_
  have := h c r
  rw [d.pixel_eq hc hr, e.pixel_eq hc hr] at this
  exact Option.some.inj this

theorem Display.pixel_setPixel (d : Display) (c r c' r' : Nat) (b : Bool) :
    (d.setPixel c r b).pixel c' r' = if c' = c ∧ r' = r then (d.pixel c r).map fun _ => b else d.pixel c' r' := by
  by_cases hin : c' < 64 ∧ r' < 32
  · obtain ⟨hc, hr⟩ := hin
    rw [Display.pixel_eq _ hc hr]
    simp only [Display.setPixel, Vector.getElem_setIfInBounds hr]
    by_cases h : r = r'
    · subst h
      simp only [if_true, Vector.getElem_setIfInBounds hc, Vector.getD, and_true]
      by_cases h2 : c' = c
      · subst h2; simp [Display.pixel_eq _ hc hr]
      · simp [h2, Ne.symm h2, Display.pixel_eq _ hc hr, hr]
    · simp [h, Ne.symm h, Display.pixel_eq _ hc hr]
  · rw [Display.pixel_none _ (by omega)]
    split
    · rename_i h
      obtain ⟨rfl, rfl⟩ := h
      rw [Display.pixel_none _ (by omega)]; rfl
    · rw [Display.pixel_none _ (by omega)]

/-! ### Drawing -/

theorem drawPixel_pixel (px py : Nat) (bit : Bool) (v : Canvas) (c r : Nat) :
    (drawPixel px py bit v).disp.pixel c r =
      (v.disp.pixel c r).map fun old => old ^^ (decide (c = px ∧ r = py) && bit) := by
  unfold drawPixel
  cases h : v.disp.pixel px py with
  | none =>
    by_cases hcr : c = px ∧ r = py
    · obtain ⟨rfl, rfl⟩ := hcr; simp [h]
    · simp [hcr]
  | some old =>
    simp only [Display.pixel_setPixel]
    by_cases hcr : c = px ∧ r = py
    · obtain ⟨rfl, rfl⟩ := hcr; simp [h]
    · simp [hcr]

theorem drawPixel_hit (px py : Nat) (bit : Bool) (v : Canvas) :
    (drawPixel px py bit v).hit = (v.hit || (bit && decide (v.disp.pixel px py = some true))) := by
  unfold drawPixel
  cases h : v.disp.pixel px py with
  | none => simp
  | some old => cases old <;> cases bit <;> simp

/-- The first `m` columns of one row. -/
theorem foldl_drawPixel (x0 py : Nat) (row : Byte) (v : Canvas) (m : Nat) :
    let u := (List.range m).foldl (fun u c => drawPixel (x0 + c) py (spriteBit row c) u) v
    (∀ c r, u.disp.pixel c r = (v.disp.pixel c r).map fun old =>
      old ^^ (decide (r = py ∧ x0 ≤ c ∧ c < x0 + m) && spriteBit row (c - x0))) ∧
    (u.hit = true ↔ v.hit = true ∨
      ∃ c, x0 ≤ c ∧ c < x0 + m ∧ spriteBit row (c - x0) = true ∧ v.disp.pixel c py = some true) := by
  induction m with
  | zero =>
    refine ⟨fun c r => ?_, ?_⟩
    · have : ¬ (r = py ∧ x0 ≤ c ∧ c < x0 + 0) := by omega
      simp only [this, decide_false, Bool.false_and, Bool.xor_false, Option.map_id', List.range_zero, List.foldl_nil]
    · simp only [List.range_zero, List.foldl_nil]
      refine ⟨.inl, fun h => h.resolve_right ?_⟩
      rintro ⟨c, h1, h2, -⟩
      omega
  | succ m ih =>
    obtain ⟨ihp, ihh⟩ := ih
    simp only [List.range_succ, List.foldl_append, List.foldl_cons, List.foldl_nil]
    refine ⟨fun c r => ?_, ?_⟩
    · rw [drawPixel_pixel, ihp, Option.map_map]
      congr 1
      funext old
      simp only [Function.comp]
      by_cases hr : r = py
      · by_cases hm : c = x0 + m
        · subst hm; simp [hr]
        · have : (x0 ≤ c ∧ c < x0 + (m + 1)) ↔ (x0 ≤ c ∧ c < x0 + m) := by omega
          simp [hr, hm, this]
      · simp [hr]
    · have hcol : decide (py = py ∧ x0 ≤ x0 + m ∧ x0 + m < x0 + m) = false := by simp
      rw [drawPixel_hit, ihp, Bool.or_eq_true, ihh, hcol]
      simp only [Bool.false_and, Bool.xor_false, Option.map_id', Bool.and_eq_true, decide_eq_true_eq]
      constructor
      · rintro ((h | ⟨c, h1, h2, h3⟩) | ⟨h1, h2⟩)
        · exact .inl h
        · exact .inr ⟨c, h1, by omega, h3⟩
        · exact .inr ⟨x0 + m, by omega, by omega, by simpa using h1, h2⟩
      · rintro (h | ⟨c, h1, h2, h3, h4⟩)
        · exact .inl (.inl h)
        · by_cases hm : c = x0 + m
          · subst hm; exact .inr ⟨by simpa using h3, h4⟩
          · exact .inl (.inr ⟨c, h1, by omega, h3, h4⟩)

/-- The bit of column `c`, row `r`, of the sprite `rows` drawn at (`x0`, `y0`). -/
def rowsBit (x0 y0 : Nat) (rows : List Byte) (c r : Nat) : Bool :=
  decide (x0 ≤ c ∧ c < x0 + 8 ∧ y0 ≤ r ∧ r < y0 + rows.length) && spriteBit (rows.getD (r - y0) 0) (c - x0)

theorem rowsBit_cons (x0 y0 : Nat) (row : Byte) (rows : List Byte) (c r : Nat) :
    rowsBit x0 y0 (row :: rows) c r =
      ((decide (r = y0 ∧ x0 ≤ c ∧ c < x0 + 8) && spriteBit row (c - x0)) ^^ rowsBit x0 (y0 + 1) rows c r) := by
  unfold rowsBit
  by_cases hr : r = y0
  · subst hr
    simp
  · have h : (x0 ≤ c ∧ c < x0 + 8 ∧ y0 ≤ r ∧ r < y0 + (row :: rows).length) =
        (x0 ≤ c ∧ c < x0 + 8 ∧ y0 + 1 ≤ r ∧ r < y0 + 1 + rows.length) := by
      simp only [List.length_cons, eq_iff_iff]; omega
    simp only [h, hr, false_and, decide_false, Bool.false_and, Bool.false_xor]
    by_cases hy : y0 + 1 ≤ r
    · rw [show r - y0 = r - (y0 + 1) + 1 by omega, List.getD_cons_succ]
    · simp only [hy, false_and, and_false, decide_false, Bool.false_and]

/-- A whole sprite: each pixel is XORed with the sprite bit that falls on it, and a hit is a set pixel under a set bit. -/
theorem drawRows_spec (x0 y0 : Nat) (rows : List Byte) (v : Canvas) :
    (∀ c r, (drawRows x0 y0 rows v).disp.pixel c r =
      (v.disp.pixel c r).map fun old => old ^^ rowsBit x0 y0 rows c r) ∧
    ((drawRows x0 y0 rows v).hit = true ↔ v.hit = true ∨
      ∃ c r, v.disp.pixel c r = some true ∧ rowsBit x0 y0 rows c r = true) := by
  induction rows generalizing y0 v with
  | nil =>
    have hb : ∀ c r, rowsBit x0 y0 [] c r = false := by
      intro c r; simp only [rowsBit, List.length_nil, Bool.and_eq_false_iff, decide_eq_false_iff_not]; left; omega
    simp [drawRows, hb]
  | cons row rows ih =>
    obtain ⟨hp, hh⟩ := foldl_drawPixel x0 y0 row v 8
    obtain ⟨ihp, ihh⟩ := ih (y0 + 1) (drawRow x0 y0 row v)
    refine ⟨fun c r => ?_, ?_⟩
    · rw [drawRows, ihp, drawRow, hp, Option.map_map]
      congr 1
      funext old
      simp only [Function.comp, rowsBit_cons, Bool.xor_assoc]
    · rw [drawRows, ihh, drawRow, hh, or_assoc]
      refine or_congr_right ?_
      constructor
      · rintro (⟨c, h1, h2, h3, h4⟩ | ⟨c, r, h1, h2⟩)
        · refine ⟨c, y0, h4, ?_⟩
          rw [rowsBit_cons]
          have : rowsBit x0 (y0 + 1) rows c y0 = false := by
            simp only [rowsBit, Bool.and_eq_false_iff, decide_eq_false_iff_not]; left; omega
          simp [this, h1, h2, h3]
        · refine ⟨c, r, ?_, ?_⟩
          all_goals
            have hr : r ≠ y0 := by
              rintro rfl
              simp only [rowsBit, Bool.and_eq_true, decide_eq_true_eq] at h2; omega
          · rw [hp] at h1
            simpa [hr] using h1
          · rw [rowsBit_cons]; simpa [hr] using h2
      · rintro ⟨c, r, h1, h2⟩
        rw [rowsBit_cons] at h2
        by_cases hr : r = y0
        · subst hr
          have : rowsBit x0 (r + 1) rows c r = false := by
            simp only [rowsBit, Bool.and_eq_false_iff, decide_eq_false_iff_not]; left; omega
          simp only [this, Bool.xor_false, Bool.and_eq_true, decide_eq_true_eq] at h2
          exact .inl ⟨c, h2.1.2.1, h2.1.2.2, h2.2, h1⟩
        · refine .inr ⟨c, r, ?_, ?_⟩
          · rw [hp, h1]; simp [hr]
          · simpa [hr] using h2

/-- The sprite bit of a row read as a bit of the byte: column 0 is bit 7. -/
theorem spriteBit_eq_getLsbD (row : Byte) (c : Nat) : spriteBit row c = row.getLsbD (7 - c) := by
  simp [spriteBit, BitVec.getLsbD, Nat.testBit_eq_decide_div_mod_eq]

end Sys2Proof.Machine
end

