-- ==== Sys2Proof/Laws/PerInstr.lean ====
section
/-! SUPPORT. Facts about every instruction as syntax, one lemma a constructor. Family FixedBits: the word of an
instruction carries the fixed bits of its row of spec/opcode_table.json (30_encoding.md R95). -/

namespace Sys2Proof.Laws

open Sys2Proof

theorem fixed_encodeA {op : Nat} (h : op < 16) (nnn : Field12) :
    encodeA op nnn &&& 0xF000#16 = BitVec.ofNat 16 (op * 4096) := by
  apply BitVec.eq_of_toNat_eq
  rw [and_F000, encodeA, toNat_ofNat16 (by omega), toNat_ofNat16 (by omega)]
  omega

theorem fixed_encodeRB {op : Nat} (h : op < 16) (x : Reg) (kk : Byte) :
    encodeRB op x kk &&& 0xF000#16 = BitVec.ofNat 16 (op * 4096) := by
  apply BitVec.eq_of_toNat_eq
  rw [and_F000, encodeRB, toNat_ofNat16 (by omega), toNat_ofNat16 (by omega)]
  omega

theorem fixed_encodeRR {op n : Nat} (h : op < 16) (hn : n < 16) (x y : Reg) :
    encodeRRN op x y n &&& 0xF00F#16 = BitVec.ofNat 16 (op * 4096 + n) := by
  apply BitVec.eq_of_toNat_eq
  rw [and_F00F, encodeRRN, toNat_ofNat16 (by omega), toNat_ofNat16 (by omega)]
  omega

theorem fixed_encodeRRN {op : Nat} (h : op < 16) (x y : Reg) (n : Nat) :
    encodeRRN op x y n &&& 0xF000#16 = BitVec.ofNat 16 (op * 4096) := by
  apply BitVec.eq_of_toNat_eq
  rw [and_F000, encodeRRN, toNat_ofNat16 (by omega), toNat_ofNat16 (by omega)]
  omega

theorem fixed_encodeR {op sub : Nat} (h : op < 16) (hs : sub < 256) (x : Reg) :
    encodeR op x sub &&& 0xF0FF#16 = BitVec.ofNat 16 (op * 4096 + sub) := by
  apply BitVec.eq_of_toNat_eq
  rw [and_F0FF, encodeR, toNat_ofNat16 (by omega), toNat_ofNat16 (by omega)]
  omega

/-- The fixed bits of the encoding are those of the instruction's row. -/
def FixedBits.Statement (i : Instr) : Prop := encode i &&& (tableRow i).2 = (tableRow i).1

theorem FixedBits.cls : FixedBits.Statement .cls := rfl
theorem FixedBits.ret : FixedBits.Statement .ret := rfl
theorem FixedBits.jmp (nnn : Field12) : FixedBits.Statement (.jmp nnn) := fixed_encodeA (by decide) nnn
theorem FixedBits.call (nnn : Field12) : FixedBits.Statement (.call nnn) := fixed_encodeA (by decide) nnn
theorem FixedBits.se_v_b (x : Reg) (kk : Byte) : FixedBits.Statement (.se_v_b x kk) := fixed_encodeRB (by decide) x kk
theorem FixedBits.sne_v_b (x : Reg) (kk : Byte) : FixedBits.Statement (.sne_v_b x kk) := fixed_encodeRB (by decide) x kk
theorem FixedBits.se_v_v (x y : Reg) : FixedBits.Statement (.se_v_v x y) := fixed_encodeRR (by decide) (by decide) x y
theorem FixedBits.ld_v_b (x : Reg) (kk : Byte) : FixedBits.Statement (.ld_v_b x kk) := fixed_encodeRB (by decide) x kk
theorem FixedBits.add_v_b (x : Reg) (kk : Byte) : FixedBits.Statement (.add_v_b x kk) := fixed_encodeRB (by decide) x kk
theorem FixedBits.ld_v_v (x y : Reg) : FixedBits.Statement (.ld_v_v x y) := fixed_encodeRR (by decide) (by decide) x y
theorem FixedBits.or_v_v (x y : Reg) : FixedBits.Statement (.or_v_v x y) := fixed_encodeRR (by decide) (by decide) x y
theorem FixedBits.and_v_v (x y : Reg) : FixedBits.Statement (.and_v_v x y) := fixed_encodeRR (by decide) (by decide) x y
theorem FixedBits.xor_v_v (x y : Reg) : FixedBits.Statement (.xor_v_v x y) := fixed_encodeRR (by decide) (by decide) x y
theorem FixedBits.add_v_v (x y : Reg) : FixedBits.Statement (.add_v_v x y) := fixed_encodeRR (by decide) (by decide) x y
theorem FixedBits.sub_v_v (x y : Reg) : FixedBits.Statement (.sub_v_v x y) := fixed_encodeRR (by decide) (by decide) x y
theorem FixedBits.shr_v (x : Reg) : FixedBits.Statement (.shr_v x) := fixed_encodeRR (by decide) (by decide) x 0
theorem FixedBits.subn_v_v (x y : Reg) : FixedBits.Statement (.subn_v_v x y) := fixed_encodeRR (by decide) (by decide) x y
theorem FixedBits.shl_v (x : Reg) : FixedBits.Statement (.shl_v x) := fixed_encodeRR (by decide) (by decide) x 0
theorem FixedBits.sne_v_v (x y : Reg) : FixedBits.Statement (.sne_v_v x y) := fixed_encodeRR (by decide) (by decide) x y
theorem FixedBits.ld_i (nnn : Field12) : FixedBits.Statement (.ld_i nnn) := fixed_encodeA (by decide) nnn
theorem FixedBits.jmp_v0 (nnn : Field12) : FixedBits.Statement (.jmp_v0 nnn) := fixed_encodeA (by decide) nnn
theorem FixedBits.rnd_v_b (x : Reg) (kk : Byte) : FixedBits.Statement (.rnd_v_b x kk) := fixed_encodeRB (by decide) x kk
theorem FixedBits.drw (x y : Reg) (n : Nat) : FixedBits.Statement (.drw x y n) := fixed_encodeRRN (by decide) x y n
theorem FixedBits.skp_v (x : Reg) : FixedBits.Statement (.skp_v x) := fixed_encodeR (by decide) (by decide) x
theorem FixedBits.sknp_v (x : Reg) : FixedBits.Statement (.sknp_v x) := fixed_encodeR (by decide) (by decide) x
theorem FixedBits.ld_v_dt (x : Reg) : FixedBits.Statement (.ld_v_dt x) := fixed_encodeR (by decide) (by decide) x
theorem FixedBits.ld_v_k (x : Reg) : FixedBits.Statement (.ld_v_k x) := fixed_encodeR (by decide) (by decide) x
theorem FixedBits.ld_dt_v (x : Reg) : FixedBits.Statement (.ld_dt_v x) := fixed_encodeR (by decide) (by decide) x
theorem FixedBits.ld_st_v (x : Reg) : FixedBits.Statement (.ld_st_v x) := fixed_encodeR (by decide) (by decide) x
theorem FixedBits.add_i_v (x : Reg) : FixedBits.Statement (.add_i_v x) := fixed_encodeR (by decide) (by decide) x
theorem FixedBits.ld_f_v (x : Reg) : FixedBits.Statement (.ld_f_v x) := fixed_encodeR (by decide) (by decide) x
theorem FixedBits.ld_b_v (x : Reg) : FixedBits.Statement (.ld_b_v x) := fixed_encodeR (by decide) (by decide) x
theorem FixedBits.ld_mem_v (x : Reg) : FixedBits.Statement (.ld_mem_v x) := fixed_encodeR (by decide) (by decide) x
theorem FixedBits.ld_v_mem (x : Reg) : FixedBits.Statement (.ld_v_mem x) := fixed_encodeR (by decide) (by decide) x

end Sys2Proof.Laws
end

