-- ==== Sys2Proof/Tests/Slice0.lean ====
section
/-! SUPPORT. The model's own tests. Expected results come from the spec's vectors (95_test_vectors.md, ids S and T) and
from its encoding tables, never from the model. Then, for every statement with hypotheses, a concrete state that meets
them. -/

namespace Sys2Proof.Tests

open Sys2Proof.Machine

/-! ### Helpers -/

/-- One step from `s` with the word `w` at its pc. -/
def run (s : State) (w : Nat) : Option State :=
  match step (s.withFetchWord 16 w) with
  | .next t => some t
  | .fault _ | .refused _ => none

/-- `f` of the state after one step from `s` with the word `w` at its pc. -/
def see {α : Type} (s : State) (w : Nat) (f : State → α) : Option α := (run s w).map f

/-- The reset state with some registers set. -/
def regs (l : List (Reg × Byte)) : State := l.foldl (fun s p => s.setReg p.1 p.2) State.reset

/-- The reset state with `pc`. -/
def atPc (pc : Word) : State := { State.reset with pc := pc }

/-- The reset state with `I`. -/
def atI (i : Word) : State := { State.reset with I := i }

/-- The reset state with some keys pressed. -/
def pressed (l : List (Fin 16)) : State := { State.reset with keys := l.foldl (fun (k : Vector Bool 16) (j : Fin 16) => k.set j true) State.reset.keys }

/-- A halted state. -/
def haltedState : State := { State.reset with fault := some ⟨.invalid_digit, 0x202#16⟩ }

/-! ### Well-formedness -/

theorem test_wellFormed_refuses_height_16 : (Instr.drw 0 0 16).wellFormed = false := by decide
theorem test_wellFormed_takes_height_15 : (Instr.drw 0 0 15).wellFormed = true := by decide

/-! ### Decoding: a word a constructor, written out from 30_encoding.md R93 and opcode_table.json -/

theorem test_decode_group_0 : decode 0b0000000011100000#16 = some .cls ∧ decode 0b0000000011101110#16 = some .ret := by
  decide

theorem test_decode_jumps :
    decode 0b0001101010111100#16 = some (.jmp 0xABC) ∧ decode 0b0010001101000101#16 = some (.call 0x345) ∧
    decode 0b1011001100000000#16 = some (.jmp_v0 0x300) ∧ decode 0b1010000100100011#16 = some (.ld_i 0x123) := by decide

theorem test_decode_skips :
    decode 0b0011001101000010#16 = some (.se_v_b 3 0x42) ∧ decode 0b0100001101000010#16 = some (.sne_v_b 3 0x42) ∧
    decode 0b0101000100100000#16 = some (.se_v_v 1 2) ∧ decode 0b1001000100100000#16 = some (.sne_v_v 1 2) ∧
    decode 0b1110010110011110#16 = some (.skp_v 5) ∧ decode 0b1110010110100001#16 = some (.sknp_v 5) := by decide

theorem test_decode_immediates :
    decode 0b0110101001011100#16 = some (.ld_v_b 0xA 0x5C) ∧ decode 0b0111000100000010#16 = some (.add_v_b 1 0x02) ∧
    decode 0b1100001100001111#16 = some (.rnd_v_b 3 0x0F) := by decide

theorem test_decode_group_8 :
    decode 0b1000000100100000#16 = some (.ld_v_v 1 2) ∧ decode 0b1000000100100001#16 = some (.or_v_v 1 2) ∧
    decode 0b1000000100100010#16 = some (.and_v_v 1 2) ∧ decode 0b1000000100100011#16 = some (.xor_v_v 1 2) ∧
    decode 0b1000000100100100#16 = some (.add_v_v 1 2) ∧ decode 0b1000000100100101#16 = some (.sub_v_v 1 2) ∧
    decode 0b1000000101010110#16 = some (.shr_v 1) ∧ decode 0b1000000100100111#16 = some (.subn_v_v 1 2) ∧
    decode 0b1000000101011110#16 = some (.shl_v 1) := by decide

theorem test_decode_drw : decode 0b1101000100100101#16 = some (.drw 1 2 5) := by decide

theorem test_decode_group_F :
    decode 0b1111001100000111#16 = some (.ld_v_dt 3) ∧ decode 0b1111001100001010#16 = some (.ld_v_k 3) ∧
    decode 0b1111001100010101#16 = some (.ld_dt_v 3) ∧ decode 0b1111001100011000#16 = some (.ld_st_v 3) ∧
    decode 0b1111000100011110#16 = some (.add_i_v 1) ∧ decode 0b1111000000101001#16 = some (.ld_f_v 0) ∧
    decode 0b1111000000110011#16 = some (.ld_b_v 0) ∧ decode 0b1111001101010101#16 = some (.ld_mem_v 3) ∧
    decode 0b1111001001100101#16 = some (.ld_v_mem 2) := by decide

/-- Undecodable words of each group (T18, T21, T31, T59, T60, T105, S11, R96, R99). -/
theorem test_undecodable :
    [0x0000, 0x00E1, 0x01E0, 0x5121, 0x912F, 0x8128, 0x812F, 0xE09F, 0xF0FF, 0xFFFF].map (decodeTableWord 16) =
      List.replicate 10 none := by decide

/-- S1: bits 7:4 of a shift are ignored and come back 0. -/
theorem test_encode_shift_clears_dont_care : encode (.shr_v 1) = 0x8106#16 ∧ decode 0x8156#16 = some (.shr_v 1) := by
  decide

theorem test_decodeBytes_is_big_endian : decodeBytes [0x1A, 0xBC, 0x07] = .ok (.jmp 0xABC, [0x07]) := by decide
theorem test_decodeBytes_rejects_by_name :
    decodeBytes [0x1A] = .error .truncated ∧ decodeBytes [0xF0, 0xFF] = .error (.undecodable 0xF0FF#16) := by decide

/-! ### Control flow -/

theorem test_jmp_T1 : see State.reset 0x1ABC State.pc = some 0xABC#16 := by decide
theorem test_call_T3 : see State.reset 0x2345 (fun t => (t.pc, t.stack)) = some (0x345#16, [0x202#16]) := by decide
theorem test_call_masks_the_return_address_T4 :
    see (atPc 0xFFE) 0x2300 (fun t => (t.pc, t.stack)) = some (0x300#16, [0x000#16]) := by decide
theorem test_call_full_T5 :
    see { State.reset with stack := List.replicate 16 0x202#16 } 0x2345 State.fault = some (some ⟨.full_stack, 0x200⟩) := by
  decide
theorem test_ret_T6 :
    see { atPc 0x345 with stack := [0x202#16] } 0x00EE (fun t => (t.pc, t.stack)) = some (0x202#16, []) := by decide
theorem test_ret_empty_T7 : see State.reset 0x00EE State.fault = some (some ⟨.empty_stack, 0x200⟩) := by decide
theorem test_jmp_v0_T8 : see (regs [(0, 0x10)]) 0xB300 State.pc = some 0x310#16 := by decide
theorem test_jmp_v0_masks_T9 : see (regs [(0, 0xFF)]) 0xBFFF State.pc = some 0x0FE#16 := by decide

/-! ### Skips -/

theorem test_se_v_b_T11_T12 :
    see (regs [(3, 0x42)]) 0x3342 State.pc = some 0x204#16 ∧ see (regs [(3, 0x42)]) 0x3343 State.pc = some 0x202#16 := by
  decide
theorem test_se_v_b_wraps_T29 : see (atPc 0xFFC) 0x3000 State.pc = some 0x000#16 := by decide
theorem test_sne_v_b_T13_T14 :
    see (regs [(3, 0x42)]) 0x4342 State.pc = some 0x202#16 ∧ see (regs [(3, 0x41)]) 0x4342 State.pc = some 0x204#16 := by
  decide
theorem test_se_v_v_T15_T16 :
    see (regs [(1, 7), (2, 7)]) 0x5120 State.pc = some 0x204#16 ∧
    see (regs [(1, 7), (2, 8)]) 0x5120 State.pc = some 0x202#16 := by decide
theorem test_sne_v_v_T19_T20 :
    see (regs [(1, 7), (2, 8)]) 0x9120 State.pc = some 0x204#16 ∧
    see (regs [(1, 7), (2, 7)]) 0x9120 State.pc = some 0x202#16 := by decide
theorem test_skp_v_T22_T23 :
    see ((pressed [5]).setReg 1 0x05) 0xE19E State.pc = some 0x204#16 ∧
    see (regs [(1, 0x05)]) 0xE19E State.pc = some 0x202#16 := by decide
theorem test_skp_v_index_16_is_never_pressed_T26 :
    see ((pressed (List.ofFn id)).setReg 1 0x10) 0xE19E State.pc = some 0x202#16 := by decide
theorem test_sknp_v_T24_T25 :
    see ((pressed [5]).setReg 1 0x05) 0xE1A1 State.pc = some 0x202#16 ∧
    see (regs [(1, 0x05)]) 0xE1A1 State.pc = some 0x204#16 := by decide

/-! ### Data movement and ALU -/

theorem test_ld_v_b_T32 : see State.reset 0x6A5C (fun t => (t.reg 0xA, t.pc)) = some (0x5C, 0x202) := by decide
theorem test_add_v_b_leaves_vf_T33 :
    see (regs [(1, 0xFF), (15, 0x77)]) 0x7102 (fun t => (t.reg 1, t.reg 15)) = some (0x01, 0x77) := by decide
theorem test_ld_v_v_T35 : see (regs [(2, 0x9A)]) 0x8120 (fun t => (t.reg 1, t.reg 2)) = some (0x9A, 0x9A) := by decide
theorem test_or_v_v_T36 :
    see (regs [(1, 0xF0), (2, 0x0F), (15, 0x55)]) 0x8121 (fun t => (t.reg 1, t.reg 15)) = some (0xFF, 0x55) := by decide
theorem test_and_v_v_T37 :
    see (regs [(1, 0xF0), (2, 0x3C), (15, 0x55)]) 0x8122 (fun t => (t.reg 1, t.reg 15)) = some (0x30, 0x55) := by decide
theorem test_xor_v_v_T38 :
    see (regs [(1, 0xF0), (2, 0x3C), (15, 0x55)]) 0x8123 (fun t => (t.reg 1, t.reg 15)) = some (0xCC, 0x55) := by decide
theorem test_add_v_v_T40 :
    see (regs [(1, 0x80), (2, 0x80)]) 0x8124 (fun t => (t.reg 1, t.reg 15)) = some (0x00, 1) := by decide
theorem test_add_v_v_vf_destination_T43_and_source_T44 :
    see (regs [(15, 0x80)]) 0x8FF4 (State.reg · 15) = some 0x00 ∧
    see (regs [(1, 0xFF), (15, 0x01)]) 0x81F4 (fun t => (t.reg 1, t.reg 15)) = some (0x00, 1) := by decide
theorem test_sub_v_v_T46 :
    see (regs [(1, 0x00), (2, 0xFF)]) 0x8125 (fun t => (t.reg 1, t.reg 15)) = some (0x01, 0) := by decide
theorem test_sub_v_v_equal_T45_vf_source_T47 :
    see (regs [(1, 5), (2, 5)]) 0x8125 (fun t => (t.reg 1, t.reg 15)) = some (0x00, 1) ∧
    see (regs [(1, 5), (15, 7)]) 0x81F5 (fun t => (t.reg 1, t.reg 15)) = some (0xFE, 0) := by decide
theorem test_subn_v_v_T48_T49 :
    see (regs [(1, 3), (2, 5)]) 0x8127 (fun t => (t.reg 1, t.reg 15)) = some (0x02, 1) ∧
    see (regs [(1, 5), (2, 3)]) 0x8127 (fun t => (t.reg 1, t.reg 15)) = some (0xFE, 0) := by decide
theorem test_subn_v_v_vf_destination_T51 : see (regs [(15, 5), (1, 3)]) 0x8F17 (State.reg · 15) = some 0xFE := by decide
theorem test_shr_v_T54 :
    see (regs [(1, 0x02), (5, 0xFF)]) 0x8156 (fun t => (t.reg 1, t.reg 15, t.reg 5)) = some (0x01, 0, 0xFF) := by decide
theorem test_shr_v_vf_T55 : see (regs [(15, 3)]) 0x8F06 (State.reg · 15) = some 0x01 := by decide
theorem test_shl_v_T57 : see (regs [(1, 0xFF)]) 0x810E (fun t => (t.reg 1, t.reg 15)) = some (0xFE, 1) := by decide
theorem test_shl_v_vf_T58 : see (regs [(15, 0x81)]) 0x8F0E (State.reg · 15) = some 0x02 := by decide
theorem test_ld_i_T61 : see State.reset 0xA123 State.I = some 0x123#16 := by decide
theorem test_add_i_v_truncates_T63 :
    see ((atI 0xFFF).setReg 1 0x02) 0xF11E (fun t => (t.I, t.reg 15)) = some (0x001, 0x00) := by decide

/-! ### Random -/

theorem test_rnd_v_b_T64 : see { State.reset with rnd := some 0xAB } 0xC10F (fun t => (t.reg 1, t.rnd)) = some (0x0B, none) := by
  decide
theorem test_rnd_v_b_to_vf_T66 : see { State.reset with rnd := some 0x5A } 0xCFFF (State.reg · 15) = some 0x5A := by decide

/-! ### Display -/

theorem test_cls_T68 :
    see { regs [(15, 0x33)] with disp := (State.reset.disp.setPixel 0 0 true).setPixel 63 31 true } 0x00E0
      (fun t => (t.disp.pixel 0 0, t.disp.pixel 63 31, t.reg 15)) = some (some false, some false, 0x33) := by decide
/-- T70: 5 pixels, columns 64 to 67 clipped. -/
theorem test_drw_clips_T70 :
    see (((atI 0x300).setBytes 0x300 [0xFF, 0x81]).setReg 1 0x3C |>.setReg 2 0x1E) 0xD122
      (fun t => ([t.disp.pixel 60 30, t.disp.pixel 63 30, t.disp.pixel 60 31, t.disp.pixel 61 31, t.disp.pixel 0 30], t.reg 15)) =
      some ([some true, some true, some true, some false, some false], 0) := by decide
/-- T80: the on-screen column collides, the clipped ones do not. -/
theorem test_drw_collision_at_the_edge_T80 :
    see { ((atI 0x300).setBytes 0x300 [0xFF]).setReg 0 0x3F with disp := State.reset.disp.setPixel 63 0 true } 0xD011
      (fun t => (t.disp.pixel 63 0, t.reg 15)) = some (some false, 1) := by decide
theorem test_drw_range_T77 : see (atI 0xFF2) 0xD01F State.fault = some (some ⟨.invalid_address, 0x200⟩) := by decide
theorem test_drw_height_16_R211 :
    (match exec (.drw 0 0 16) State.reset with | .next t => t.fault | _ => none) = some ⟨.invalid_instruction, 0x200⟩ := by
  decide

/-! ### Keypad, timers, memory transfer -/

theorem test_ld_v_k_waits_T81 :
    see (regs [(3, 0x77)]) 0xF30A (fun t => (t.pc, t.reg 3, t.CD)) = some (0x200, 0x77, 1) ∧
    advanced ((regs [(3, 0x77)]).withFetchWord 16 0xF30A) = true := by decide
theorem test_ld_v_k_T82 : see (pressed [9, 5]) 0xF30A (fun t => (t.reg 3, t.pc)) = some (0x05, 0x202) := by decide
theorem test_ld_v_dt_T85 :
    see { State.reset with DT := 0x2A, CD := 9 } 0xF107 (fun t => (t.reg 1, t.DT, t.CD)) = some (0x2A, 0x29, 0) := by decide
theorem test_ld_dt_v_T86_T87 :
    see (regs [(1, 0x20)]) 0xF115 (fun t => (t.DT, t.CD)) = some (0x20, 1) ∧
    see { regs [(1, 0x20)] with CD := 9 } 0xF115 (fun t => (t.DT, t.CD)) = some (0x1F, 0) := by decide
theorem test_ld_st_v_T89 : see (regs [(1, 0x10)]) 0xF118 (fun t => (t.ST, t.CS)) = some (0x10, 1) := by decide
theorem test_ld_f_v_T91 : see (regs [(1, 0x0F)]) 0xF129 State.I = some 0x04B#16 := by decide
theorem test_ld_f_v_T93 : see (regs [(1, 0x10)]) 0xF129 State.fault = some (some ⟨.invalid_digit, 0x200⟩) := by decide
theorem test_ld_b_v_T95 : see ((atI 0xFFD).setReg 0 0xFF) 0xF033 (State.bytes · 0xFFD 3) = some [0x02, 0x05, 0x05] := by
  decide
theorem test_ld_b_v_T96 : see (atI 0xFFE) 0xF033 State.fault = some (some ⟨.invalid_address, 0x200⟩) := by decide
theorem test_ld_mem_v_T97 :
    see (((regs [(0, 1), (1, 2), (2, 3), (3, 4)]).setI 0x300).setBytes 0x304 [0xEE]) 0xF355
      (fun t => (t.bytes 0x300 5, t.I)) = some ([1, 2, 3, 4, 0xEE], 0x300) := by decide
theorem test_ld_mem_v_T100 : see (atI 0xFF1) 0xFF55 State.fault = some (some ⟨.invalid_address, 0x200⟩) := by decide
theorem test_ld_v_mem_T101 :
    see (((regs [(3, 0x77)]).setI 0x300).setBytes 0x300 [0x0A, 0x0B, 0x0C]) 0xF265
      (fun t => (t.reg 0, t.reg 1, t.reg 2, t.reg 3, t.I)) = some (0x0A, 0x0B, 0x0C, 0x77, 0x300) := by decide
theorem test_ld_v_mem_T103 : see (atI 0xFFE) 0xF265 State.fault = some (some ⟨.invalid_address, 0x200⟩) := by decide

/-! ### The step cycle -/

theorem test_nothing_loaded_T107 :
    (match step State.reset with | .next t => t.fault | _ => none) = some ⟨.invalid_instruction, 0x200⟩ := by decide
theorem test_pc_wraps_at_the_top_T108 : see (atPc 0xFFE) 0x6000 State.pc = some 0x000#16 := by decide
theorem test_fetch_at_0xFFF_T109 :
    (match step (atPc 0xFFF) with | .next t => t.fault | _ => none) = some ⟨.invalid_address, 0xFFF⟩ := by decide
theorem test_counter_resets_with_timer_at_0_T114 :
    see { State.reset with CD := 9 } 0x1200 (fun t => (t.DT, t.CD)) = some (0, 0) := by decide
theorem test_fault_codes_R268 :
    [FaultKind.invalid_address, .invalid_instruction, .invalid_digit, .empty_stack, .full_stack].map faultCode =
      [0, 1, 2, 3, 4] := by decide
/-- The glyphs of 20_memory.md R67: digit 0 first, then digit 7, the last byte of F, and nothing after it. -/
theorem test_font_R67 :
    State.reset.bytes 0 5 = [0xF0, 0x90, 0x90, 0x90, 0xF0] ∧ State.reset.bytes 35 5 = [0xF0, 0x10, 0x20, 0x40, 0x40] ∧
    State.reset.bytes 79 2 = [0x80, 0x00] ∧ fontGlyphs.length = 80 := by decide

/-! ### Witnesses: for each statement with hypotheses, a state and operands that meet them -/

theorem reset_inv : Inv State.reset :=
  ⟨rfl, by decide, by decide, by decide, fun _ h => (nomatch h), rfl, Nat.zero_le _, State.ofConfig_mem_wf _⟩

theorem witness_StepRunsTheDecodedInstruction :
    let s := State.reset.withFetchWord 16 0x1ABC
    s.running ∧ s.pc.toNat + 2 ≤ 4096 ∧
      decode (word (s.byte s.pc.toNat) (s.byte (s.pc.toNat + 1))) = some (.jmp 0xABC) := by decide

theorem witness_HaltedStepChangesNothing : haltedState.fault ≠ none := by decide

theorem witness_RecordedFaultIsPermanent :
    haltedState.fault = some ⟨.invalid_digit, 0x202⟩ ∧ ∃ t, haltedState.loadImage 0x300 [0x12] = .next t :=
  ⟨rfl, _, rfl⟩

theorem witness_FetchAtTheTopOfMemory :
    (atPc 0xFFE).pc.toNat = 0xFFE ∧ (atPc 0xFFF).pc.toNat = 0xFFF ∧ (atPc 0xFFF).running := by decide

theorem witness_UndecodableWordRecordsInvalidInstruction :
    let s := State.reset.withFetchWord 16 0xFFFF
    s.running ∧ s.pc.toNat + 2 ≤ 4096 ∧ decode (word (s.byte s.pc.toNat) (s.byte (s.pc.toNat + 1))) = none := by decide

theorem witness_FaultAddressIsThePcOfTheFailingStep :
    State.reset.running ∧ ∃ t, step State.reset = .next t ∧ t.fault = some ⟨.invalid_instruction, 0x200⟩ :=
  ⟨rfl, _, rfl, rfl⟩

/-- One state for each row of the fault table, and one for no fault. -/
theorem witness_EveryInstructionRecordsExactlyTheTabledFault :
    tabledFault State.reset .ret = some .empty_stack ∧
    tabledFault { State.reset with stack := List.replicate 16 0 } (.call 0) = some .full_stack ∧
    tabledFault { State.reset with stack := List.replicate 15 0 } (.call 0) = none ∧
    tabledFault (atI 0xFFF) (.drw 0 0 16) = some .invalid_instruction ∧
    tabledFault (atI 0xFF2) (.drw 0 0 15) = some .invalid_address ∧ tabledFault (atI 0xFF1) (.drw 0 0 15) = none ∧
    tabledFault (regs [(1, 0x10)]) (.ld_f_v 1) = some .invalid_digit ∧ tabledFault (regs [(1, 0x0F)]) (.ld_f_v 1) = none ∧
    tabledFault (atI 0xFFE) (.ld_b_v 0) = some .invalid_address ∧ tabledFault (atI 0xFFD) (.ld_b_v 0) = none ∧
    State.reset.running := by decide

theorem witness_ConstructedMachineMeetsTheInvariant : construct vectorConfig = .next State.reset := rfl

theorem witness_StepKeepsTheInvariant : Inv State.reset ∧ ∃ t, step State.reset = .next t := ⟨reset_inv, _, rfl⟩

theorem witness_ReachableStatesMeetTheInvariant : Reachable State.reset :=
  .loaded (.construct witness_ConstructedMachineMeetsTheInvariant)

theorem witness_ConfigurationIsFixed :
    (∃ t, step State.reset = .next t) ∧ ∃ t, State.reset.loadImage 0x200 [0x12, 0x00] = .next t := ⟨⟨_, rfl⟩, _, rfl⟩

theorem witness_DecodeOfEncodeIsTheInstruction : (Instr.drw 15 15 15).wellFormed = true := by decide

theorem witness_EncodeOfDecodeIsTheWord :
    decode 0x8156#16 = some (.shr_v 1) ∧ decode 0x8FFE#16 = some (.shl_v 15) ∧ decode 0x1FFF#16 = some (.jmp 0xFFF) := by
  decide

theorem witness_DecodedWordCarriesItsRowsFixedBits : decode 0xDFFF#16 = some (.drw 15 15 15) := by decide

/-- A word in each clause, at the edges of its group. -/
theorem witness_UndecodableWordsAreExactlyTheUnassigned :
    [0x0000, 0x0FFF, 0x5001, 0x9FFF, 0x8008, 0x800F, 0xE000, 0xEFFF, 0xF000, 0xFFFF].map (decodeTableWord 16) =
      List.replicate 10 none ∧
    [0x00E0, 0x00EE, 0x5000, 0x9FF0, 0x8007, 0x800E, 0xE09E, 0xEFA1, 0xF007, 0xFF65].all
      (fun w => (decodeTableWord 16 w).isSome) = true := by decide

theorem witness_ConstructionGivesTheResetValues :
    admissible vectorConfig = true ∧ admissible { vectorConfig with fontBase := 4016 } = true := by decide

theorem witness_ConstructedMemoryIsZeroExceptTheFont :
    ∃ s, construct { vectorConfig with fontBase := 4016 } = .next s := ⟨_, rfl⟩

theorem witness_FontThatDoesNotFitBuildsNoMachine : 4096 < ({ vectorConfig with fontBase := 4017 } : Config).fontBase + 80 := by
  decide

/-- An image that ends at the top of memory, one that starts where the font ends, one too long, one in the font. -/
theorem witness_LoadStoresTheImageOutsideTheFont :
    State.reset.mem.wf State.reset.cfg ∧ 0xFFE + [0x12, 0x00].length ≤ 4096 ∧
    (∀ j, j < [0x12, 0x00].length → ¬ (State.reset.cfg.fontBase ≤ 80 + j ∧ 80 + j < State.reset.cfg.fontBase + 80)) ∧
    4096 < 0xFFF + [0x12, 0x00].length ∧
    ∃ j, j < [0x12, 0x00].length ∧ State.reset.cfg.fontBase ≤ 79 + j ∧ 79 + j < State.reset.cfg.fontBase + 80 :=
  ⟨by decide, by decide, by decide, by decide, 0, by decide⟩

theorem witness_CallPushesTheReturnAddress :
    ({ State.reset with stack := List.replicate 15 0 } : State).stack.length < 16 ∧
    ({ State.reset with stack := List.replicate 16 0 } : State).stack.length = 16 := by decide

theorem witness_RetPopsIntoPc :
    ({ State.reset with stack := [0x202] } : State).stack = [] ++ [0x202#16] ∧ State.reset.stack = [] := by decide

theorem witness_RetUndoesCall :
    State.reset.stack.length < 16 ∧ ∃ t, exec (.call 0x300) State.reset = .next t := ⟨by decide, _, rfl⟩

theorem witness_RegisterSkipsAdvanceByFourOrTwo :
    (regs [(3, 0x42)]).reg 3 = 0x42#8 ∧ (regs [(3, 0x42)]).reg 3 ≠ 0x43#8 ∧
    (regs [(1, 7), (2, 7)]).reg 1 = (regs [(1, 7), (2, 7)]).reg 2 ∧
    (regs [(1, 7), (2, 8)]).reg 1 ≠ (regs [(1, 7), (2, 8)]).reg 2 := by decide

/-- Key 15 pressed, key 15 released, index 16. -/
theorem witness_KeySkipsTestTheKeyARegisterNames :
    (∃ h : (((pressed [15]).setReg 1 0x0F).reg 1).toNat < 16,
      (pressed [15]).keys[(((pressed [15]).setReg 1 0x0F).reg 1).toNat] = true) ∧
    (¬ ∃ h : ((regs [(1, 0x0F)]).reg 1).toNat < 16, (regs [(1, 0x0F)]).keys[((regs [(1, 0x0F)]).reg 1).toNat] = true) ∧
    ¬ ((regs [(1, 0x10)]).reg 1).toNat < 16 := by decide

/-- The flag clauses ask for a destination that is not VF. -/
theorem witness_flag_clauses_destination_is_not_vf : (14 : Reg) ≠ 15 := by decide

theorem witness_RndMasksTheRandomByte :
    ({ State.reset with rnd := some 0xAB } : State).rnd = some 0xAB#8 ∧ State.reset.rnd = none := by decide

/-- The tallest sprite that fits at the top of memory; a state with a collision, and one without. -/
theorem witness_DrwXorsTheSpriteAndReportsCollision :
    (15 : Nat) ≤ 15 ∧ (atI 0xFF1).spans 15 ∧ State.reset.disp.pixel 63 31 = some false ∧
    (let s := { atI 0 with disp := State.reset.disp.setPixel 0 0 true }
     s.disp.pixel 0 0 = some true ∧ spriteAt s 0 0 1 0 0 = true) ∧
    spriteAt (atI 0) 0 0 1 4 0 = false := ⟨by decide, by decide, rfl, ⟨rfl, rfl⟩, rfl⟩

/-- The premises of the draw-twice statement are met from every state: the state after the draw is the one drawn on. -/
theorem drawn_state_meets_the_premises (s : State) (x y : Reg) (n : Nat) (hx : x ≠ 15) (hy : y ≠ 15) (hn : n ≤ 15)
    (hs : s.spans n) :
    ∃ t u : State, exec (.drw x y n) s = .next t ∧ u.disp = t.disp ∧ u.I = s.I ∧ u.reg x = s.reg x ∧ u.reg y = s.reg y ∧
      ∀ j, j < n → u.byte (s.I.toNat + j) = s.byte (s.I.toNat + j) := by
  have h : exec (.drw x y n) s =
      .next ((s.drawSprite (s.reg x).toNat (s.reg y).toNat (s.bytes s.I.toNat n)).advance 2) := by
    simp only [exec, exec_drw, maxSpriteHeight, if_neg (Nat.not_lt.2 hn)]
    exact s.guardRange_inside _ hs
  exact ⟨_, _, h, rfl, rfl, by simp [State.reg_drawSprite, hx], by simp [State.reg_drawSprite, hy], fun _ _ => rfl⟩

/-- The glyph of digit 0, drawn at column V0 and row V1; the state after the first draw is the one drawn on again. -/
theorem witness_DrawingTwiceRestoresTheDisplay :
    ∃ t u : State, (5 : Nat) ≤ 15 ∧ State.reset.spans 5 ∧ exec (.drw 0 1 5) State.reset = .next t ∧ u.disp = t.disp ∧
      u.I = State.reset.I ∧ u.reg 0 = State.reset.reg 0 ∧ u.reg 1 = State.reset.reg 1 ∧
      ∀ j, j < 5 → u.byte (State.reset.I.toNat + j) = State.reset.byte (State.reset.I.toNat + j) := by
  have hs : State.reset.spans 5 := by decide
  obtain ⟨t, u, h⟩ := drawn_state_meets_the_premises State.reset 0 1 5 (by decide) (by decide) (by decide) hs
  exact ⟨t, u, by decide, hs, h⟩

theorem witness_OffDisplayPixelIsSkipped : ((64 : Nat) ≤ 64 ∧ (32 : Nat) ≤ 32) ∧ (63 : Nat) < 64 ∧ (31 : Nat) < 32 := by decide

theorem witness_WaitForKeyTakesTheLeastPressedKey :
    ((pressed [9, 5]).keys[(5 : Fin 16)] = true ∧ ∀ j : Fin 16, j < 5 → (pressed [9, 5]).keys[j] = false) ∧
    ∀ j : Fin 16, State.reset.keys[j] = false := by decide

theorem witness_WaitingStepOnlyAdvancesTheTimers :
    let s := State.reset.withFetchWord 16 0xF30A
    s.running ∧ s.pc.toNat + 2 ≤ 4096 ∧
      decode (word (s.byte s.pc.toNat) (s.byte (s.pc.toNat + 1))) = some (.ld_v_k 3) ∧ ∀ j : Fin 16, s.keys[j] = false := by
  decide

theorem witness_FontLookupGivesTheGlyphAddress :
    ((regs [(1, 0x0F)]).reg 1).toNat ≤ 0x0F ∧ (regs [(1, 0x0F)]).cfg.fontBase + 80 ≤ 4096 ∧
    0x0F < ((regs [(1, 0x10)]).reg 1).toNat := by decide

theorem witness_BcdStoreWritesThreeDigits :
    (atI 0xFFD).spans 3 ∧ (atI 0xFFD).mem.wf (atI 0xFFD).cfg ∧ ¬ (atI 0xFFE).spans 3 := by decide

theorem witness_RegisterStoreWritesTheRange :
    (atI 0xFF0).spans ((15 : Reg).val + 1) ∧ (atI 0xFF0).mem.wf (atI 0xFF0).cfg ∧
    ¬ (atI 0xFF1).spans ((15 : Reg).val + 1) := by decide

theorem witness_RegisterLoadReadsTheRange :
    (atI 0xFFF).spans ((0 : Reg).val + 1) ∧ ¬ (atI 0xFFF).spans ((1 : Reg).val + 1) := by decide

theorem witness_RegisterLoadUndoesRegisterStore :
    ∃ t : State, (atI 0x300).mem.wf (atI 0x300).cfg ∧ (atI 0x300).spans ((1 : Reg).val + 1) ∧
      exec (.ld_mem_v 1) (atI 0x300) = .next t ∧ t.I = (atI 0x300).I := ⟨_, by decide, by decide, rfl, rfl⟩

theorem witness_StoredBytesAreFetched :
    ∃ t : State, (atI 0x300).mem.wf (atI 0x300).cfg ∧ (atI 0x300).spans ((1 : Reg).val + 1) ∧
      exec (.ld_mem_v 1) (atI 0x300) = .next t ∧ (1 : Reg) ≤ 1 ∧ (1 : Reg).val = (0 : Reg).val + 1 ∧
      (0x300#16).toNat = (atI 0x300).I.toNat + (0 : Reg).val :=
  ⟨_, by decide, by decide, rfl, by decide, by decide, by decide⟩

/-- The tenth and the ninth advance at MASTER_CLOCK_RATE 600. -/
theorem witness_TimerAdvanceCountsAndDecrements :
    State.reset.cfg.masterClockRate / (9 + 1) ≤ 60 ∧ 60 < State.reset.cfg.masterClockRate / (8 + 1) := by decide

/-- R272's own examples: P = 10 at 600, 11 at 650, 1 at 0. -/
theorem witness_TimersFallEveryPAdvances :
    State.reset.CD = 0 ∧ State.reset.CS = 0 ∧ 600 / 10 ≤ 60 ∧ (∀ c, c < 10 → 1 ≤ c → 60 < 600 / c) ∧
    650 / 11 ≤ 60 ∧ (∀ c, c < 11 → 1 ≤ c → 60 < 650 / c) ∧ 0 / 1 ≤ 60 ∧ State.reset.cfg.masterClockRate = 600 := by decide

theorem witness_WrittenTimerCanFallInTheSameStep :
    let s := { State.reset with CD := 9, CS := 9 }.withFetchWord 16 0xF115
    let u := { State.reset with CD := 9, CS := 9 }.withFetchWord 16 0xF118
    s.running ∧ s.pc.toNat + 2 ≤ 4096 ∧ s.cfg.masterClockRate / (s.CD + 1) ≤ 60 ∧
      decode (word (s.byte s.pc.toNat) (s.byte (s.pc.toNat + 1))) = some (.ld_dt_v 1) ∧
      u.running ∧ u.pc.toNat + 2 ≤ 4096 ∧ u.cfg.masterClockRate / (u.CS + 1) ≤ 60 ∧
      decode (word (u.byte u.pc.toNat) (u.byte (u.pc.toNat + 1))) = some (.ld_st_v 1) := by decide

theorem witness_OnlyItsWritersChangeAPart :
    State.reset.running ∧ ∃ t, exec (.add_v_v 1 2) State.reset = .next t ∧ t.fault = none := ⟨rfl, _, rfl, rfl⟩

theorem witness_PcAdvancesByTwoUnlessRedirected :
    redirects (.drw 0 0 15) = false ∧ State.reset.running ∧
      ∃ t, exec (.drw 0 0 15) State.reset = .next t ∧ t.fault = none := ⟨rfl, rfl, _, rfl, rfl⟩

theorem witness_KeypadIsReadByThreeAndWrittenByNone :
    (∃ t, step State.reset = .next t) ∧ readsKeys (.ld_v_mem 15) = false := ⟨⟨_, rfl⟩, rfl⟩

theorem witness_TimersAreReadOnlyByTheDelayRead :
    (∀ x, Instr.ld_v_dt 1 ≠ .ld_st_v x) ∧ ∀ x, Instr.ld_st_v 1 ≠ .ld_v_dt x ∧ Instr.ld_st_v 1 ≠ .ld_dt_v x :=
  ⟨fun _ h => (nomatch h), fun _ => ⟨fun h => (nomatch h), fun h => (nomatch h)⟩⟩

theorem witness_OnlyRndReadsTheRandomByte : ∀ x kk, Instr.cls ≠ .rnd_v_b x kk := fun _ _ h => nomatch h

end Sys2Proof.Tests
end

