-- ==== Sys2Proof/Proofs/Scope.lean ====
section
/-! SUPPORT. The family 00_scope.md: how a word is made of two Bytes. -/

namespace Sys2Proof

/-- 00_scope.md R14: two Bytes give at most 255 * 256 + 255, so the 16 bits of a word truncate nothing. -/
@[simp] theorem toNat_word (hi lo : Byte) : (word hi lo).toNat = hi.toNat * 256 + lo.toNat := by
  have fits : hi.toNat * 256 + lo.toNat < 65536 := by omega
  exact toNat_ofNat16 fits

/-- Settles O19: the value of a word is `toNat_word`. -/
theorem wordIsHighByteFirst : Obligations.WordIsHighByteFirst := toNat_word

end Sys2Proof
end

/-! SUPPORT. The family 10_state.md: what a step can do, the invariant, the frame of an instruction, and which parts of the
state an instruction does not read. -/

namespace Sys2Proof.Machine

/-! ### Outcomes -/

/-- The outcome is a next state, and `P` holds of it when it records no fault. -/
def Succeeds (o : Host.Outcome State Fault Refusal) (P : State → Prop) : Prop :=
  Answers o fun t => t.fault = none → P t

theorem Answers.of_next {o : Host.Outcome State Fault Refusal} {P : State → Prop} {t : State} (h : Answers o P)
    (ho : o = .next t) : P t := by
  obtain ⟨u, hu, hP⟩ := h
  cases hu.symm.trans ho
  exact hP

theorem Succeeds.next {P : State → Prop} {t : State} (h : P t) : Succeeds (.next t) P := ⟨t, rfl, fun _ => h⟩

theorem Succeeds.raise {P : State → Prop} {s : State} {k : FaultKind} : Succeeds (.next (s.raise k)) P :=
  ⟨_, rfl, fun h => nomatch h⟩

theorem Succeeds.guardRange {P : State → Prop} {s t : State} {n : Nat} (h : s.I.toNat + n ≤ 4096 → P t) :
    Succeeds (s.guardRange n t) P := by
  by_cases hn : s.I.toNat + n ≤ 4096
  · rw [s.guardRange_inside t hn]
    exact .next (h hn)
  · rw [s.guardRange_outside t (Nat.not_le.1 hn)]
    exact .raise

/-! ### The instructions that check something first: it is enough that `P` holds where they go on -/

section
variable {P : State → Prop} {s : State}

theorem exec_ret_succeeds (h : ∀ top, s.stack.getLast? = some top → P (s.popped.jumpTo top)) :
    Succeeds (exec .ret s) P := by
  simp only [exec, exec_ret]
  split
  · exact .raise
  next top htop => exact .next (h top htop)

theorem exec_call_succeeds {nnn : Field12}
    (h : s.stack.length < 16 → P ((s.push (mask12 (s.pc.toNat + 2))).jumpTo (addressOf nnn))) :
    Succeeds (exec (.call nnn) s) P := by
  simp only [exec, exec_call]
  split
  · exact .raise
  next hfree => exact .next (h (Nat.not_le.1 hfree))

theorem exec_drw_succeeds {x y : Reg} {n : Nat}
    (h : n ≤ 15 → s.I.toNat + n ≤ 4096 →
      P ((s.drawSprite (s.reg x).toNat (s.reg y).toNat (s.bytes s.I.toNat n)).advance 2)) :
    Succeeds (exec (.drw x y n) s) P := by
  simp only [exec, exec_drw]
  split
  · exact .raise
  next hn => exact .guardRange (h (Nat.not_lt.1 hn))

theorem exec_ld_f_v_succeeds {x : Reg}
    (h : (s.reg x).toNat ≤ 0x0F → P ((s.setI (glyphAddress s.cfg (s.reg x).toNat)).advance 2)) :
    Succeeds (exec (.ld_f_v x) s) P := by
  simp only [exec, exec_ld_f_v]
  split
  · exact .raise
  next hdigit => exact .next (h (Nat.not_lt.1 hdigit))

theorem exec_ld_v_k_succeeds {x : Reg}
    (hkey : ∀ k, s.lowestKey = some k → P ((s.setReg x (BitVec.ofNat 8 k)).advance 2))
    (hwait : s.lowestKey = none → P s) : Succeeds (exec (.ld_v_k x) s) P := by
  simp only [exec, exec_ld_v_k]
  split
  next k hk => exact .next (hkey k hk)
  next hk => exact .next (hwait hk)

theorem exec_ld_b_v_succeeds {x : Reg}
    (h : s.I.toNat + 3 ≤ 4096 → P ((s.setBytes s.I.toNat (bcdDigits (s.reg x))).advance 2)) :
    Succeeds (exec (.ld_b_v x) s) P := .guardRange h

theorem exec_ld_mem_v_succeeds {x : Reg}
    (h : s.I.toNat + (x.val + 1) ≤ 4096 → P ((s.setBytes s.I.toNat (s.regsUpTo x)).advance 2)) :
    Succeeds (exec (.ld_mem_v x) s) P := .guardRange h

theorem exec_ld_v_mem_succeeds {x : Reg}
    (h : s.I.toNat + (x.val + 1) ≤ 4096 → P ((s.loadRegs x s.I.toNat).advance 2)) :
    Succeeds (exec (.ld_v_mem x) s) P := .guardRange h

end

/-! ### What a step can do -/

/-- A step of a halted machine changes nothing; a step of a running one records a fault at the `pc` it started at, or runs
an instruction that records none and advances the timers (60_exceptions.md R262). -/
theorem step_answers_by_case (s : State) : Answers (step s) fun t =>
    (s.fault ≠ none ∧ t = s) ∨
    (s.fault = none ∧ ∃ k, t = s.raise k) ∨
    (s.fault = none ∧ ∃ i u, exec i s = .next u ∧ u.fault = none ∧ t = u.timerAdvance) := by
  obtain ⟨hs, h⟩ | ⟨hs, -, h⟩ | ⟨w, hs, -, -, h⟩ | ⟨w, i, hs, -, -, h⟩ := step_cases s
  · exact ⟨s, h, .inl ⟨hs, rfl⟩⟩
  · exact ⟨_, h, .inr (.inl ⟨hs, _, rfl⟩)⟩
  · exact ⟨_, h, .inr (.inl ⟨hs, _, rfl⟩)⟩
  · obtain ⟨k, he⟩ | ⟨u, he, hu, -⟩ := exec_raises_or_succeeds i s
    · exact ⟨s.raise k, by rw [h, he]; rfl, .inr (.inl ⟨hs, k, rfl⟩)⟩
    · rw [hs] at hu
      exact ⟨u.timerAdvance, by rw [h, he, finishStep_next, if_pos hu], .inr (.inr ⟨hs, i, u, he, hu, rfl⟩)⟩

/-- Settles O6: only the second way of `step_answers_by_case` records a fault, and `raise` records the `pc`. -/
theorem faultAddressIsThePcOfTheFailingStep : Obligations.FaultAddressIsThePcOfTheFailingStep := by
  intro s t r hs h hr
  obtain ⟨hne, -⟩ | ⟨-, k, rfl⟩ | ⟨-, i, u, -, hu, rfl⟩ := (step_answers_by_case s).of_next h
  · exact absurd hs hne
  · cases hr
    rfl
  · cases hu.symm.trans hr

/-! ### What no step changes -/

/-- Fetch, decode, execution, a fault and the timer advance leave configuration and keypad alone (10_state.md R37, R39). -/
theorem step_keeps_cfg_and_keys (s : State) : Answers (step s) fun t => t.cfg = s.cfg ∧ t.keys = s.keys := by
  obtain ⟨t, h, ⟨-, rfl⟩ | ⟨-, k, rfl⟩ | ⟨-, i, u, he, hu, rfl⟩⟩ := step_answers_by_case s
  · exact ⟨t, h, rfl, rfl⟩
  · exact ⟨_, h, rfl, rfl⟩
  · refine ⟨_, h, ?_⟩
    obtain ⟨k, hk⟩ | ⟨u', hu', -, hkeys, hcfg, -⟩ := exec_raises_or_succeeds i s
    · cases he.symm.trans hk
      exact ⟨rfl, rfl⟩
    · cases he.symm.trans hu'
      exact ⟨hcfg, hkeys⟩

theorem runWith_keeps_cfg (inputs : List StepInput) (s : State) : Answers (runWith inputs s) fun t => t.cfg = s.cfg := by
  induction inputs generalizing s with
  | nil => exact ⟨s, rfl, rfl⟩
  | cons input inputs ih =>
    obtain ⟨t, h, hcfg, -⟩ := step_keeps_cfg_and_keys (s.present input)
    obtain ⟨u, hu, hucfg⟩ := ih t
    exact ⟨u, by simpa only [runWith, h] using hu, hucfg.trans hcfg⟩

/-- An accepted image lies in memory and is stored as it is. -/
theorem State.loadImage_next {s t : State} {a : Nat} {image : List Byte} (h : s.loadImage a image = .next t) :
    a + image.length ≤ 4096 ∧ t = s.setBytes a image := by
  unfold State.loadImage at h
  split at h
  · cases h
  · split at h
    · cases h
    · cases h
      exact ⟨by simp_all, rfl⟩

/-- Settles O13: one step by `step_keeps_cfg_and_keys`, a run by induction on its inputs. -/
theorem configurationIsFixed : Obligations.ConfigurationIsFixed := by
  refine fun s => ⟨fun t h => ((step_keeps_cfg_and_keys s).of_next h).1, fun inputs => runWith_keeps_cfg inputs s, ?_⟩
  intro a image t h
  obtain ⟨-, rfl⟩ := State.loadImage_next h
  rfl

/-! ### The invariant (10_state.md R53) -/

section
variable {s : State}

/-- Both counters count the same advances, so they stay equal (10_state.md R34). -/
theorem timerTick_counter_eq (rate c : Nat) (b b' : Byte) : (timerTick rate c b).1 = (timerTick rate c b').1 := by
  unfold timerTick
  split <;> rfl

theorem Inv.timerAdvance (hi : Inv s) : Inv s.timerAdvance :=
  { hi with
    counters := by
      rw [State.timerAdvance_CD, State.timerAdvance_CS, ← hi.counters]
      exact timerTick_counter_eq _ _ _ _
    counterBound := Nat.le_succ_of_le (timerTick_counter_le _ _ _) }

/-- What a fault leaves free stays within the limits (log entry 2). -/
theorem Inv.raise (hi : Inv s) (k : FaultKind) : Inv (s.raise k) :=
  { hi with
    index := s.raise_I_le k
    stackDepth := s.raise_stack_length k
    stackEntries := s.raise_stack_le k
    memory := s.raise_mem_wf k hi.memory }

theorem Inv.setV (hi : Inv s) (V : Vector Byte 16) : Inv { s with V := V } := { hi with }

theorem Inv.setBytes (hi : Inv s) {a : Nat} {bs : List Byte} (h : a + bs.length ≤ 4096) : Inv (s.setBytes a bs) :=
  { hi with memory := Memory.wf_writeBytes hi.memory h }

theorem Inv.setI (hi : Inv s) {a : Word} (h : a.toNat ≤ 0xFFF) : Inv (s.setI a) := { hi with index := h }

theorem Inv.jumpTo (hi : Inv s) {a : Word} (h : a.toNat ≤ 0xFFF) : Inv (s.jumpTo a) := { hi with pc := h }

theorem Inv.advance (hi : Inv s) (k : Nat) : Inv (s.advance k) := { hi with pc := mask12_le _ }

theorem Inv.push (hi : Inv s) {a : Word} (hlen : s.stack.length < 16) (ha : a.toNat ≤ 0xFFF) : Inv (s.push a) :=
  { hi with
    stackDepth := by simpa using hlen
    stackEntries := by simpa [or_imp, forall_and] using ⟨hi.stackEntries, ha⟩ }

theorem Inv.popped (hi : Inv s) : Inv s.popped :=
  { hi with
    stackDepth := by simpa using Nat.le_succ_of_le hi.stackDepth
    stackEntries := fun a ha => hi.stackEntries a (List.dropLast_subset _ ha) }

theorem Inv.randomTaken (hi : Inv s) : Inv s.randomTaken := by
  unfold State.randomTaken
  split <;> exact { hi with }

/-- The font lies in memory, so every glyph has a 12-bit address (20_memory.md R68). -/
theorem glyphAddress_le {cfg : Config} (h : admissible cfg = true) {d : Nat} (hd : d ≤ 0x0F) :
    (glyphAddress cfg d).toNat ≤ 0xFFF := by
  have hfit : cfg.fontBase + 80 ≤ 4096 := by
    simp only [admissible, Bool.and_eq_true, decide_eq_true_eq] at h
    exact h.2
  rw [glyphAddress, glyphSize, BitVec.toNat_ofNat]
  exact (Nat.mod_le _ _).trans (by omega)

theorem Inv.ofConfig {cfg : Config} (h : admissible cfg = true) : Inv (State.ofConfig cfg) where
  config := h
  pc := show resetPc.toNat ≤ 0xFFF by decide
  index := Nat.zero_le _
  stackDepth := Nat.zero_le _
  stackEntries _ ha := nomatch ha
  counters := rfl
  counterBound := Nat.zero_le _
  memory := State.ofConfig_mem_wf cfg

/-- An instruction that succeeds keeps the invariant, one case each. Those not named write, of what the invariant speaks of, only a masked
`pc`. -/
theorem exec_keeps_inv (i : Instr) (hi : Inv s) : Succeeds (exec i s) Inv := by
  cases i with
  | ret => exact exec_ret_succeeds fun top h => hi.popped.jumpTo (hi.stackEntries top (List.mem_of_getLast? h))
  | jmp nnn => exact .next (hi.jumpTo (addressOf_le nnn))
  | call nnn => exact exec_call_succeeds fun h => (hi.push h (mask12_le _)).jumpTo (addressOf_le nnn)
  | ld_i nnn => exact .next ((hi.setI (addressOf_le nnn)).advance 2)
  | add_i_v x => exact .next ((hi.setI (mask12_le _)).advance 2)
  | ld_f_v x => exact exec_ld_f_v_succeeds fun h => (hi.setI (glyphAddress_le hi.config h)).advance 2
  | rnd_v_b x kk => exact .next { hi.randomTaken with pc := mask12_le _ }
  | drw x y n => exact exec_drw_succeeds fun _ _ => { hi with pc := mask12_le _ }
  | ld_v_k x => exact exec_ld_v_k_succeeds (fun _ _ => { hi with pc := mask12_le _ }) fun _ => hi
  | ld_b_v x => exact exec_ld_b_v_succeeds fun h => (hi.setBytes h).advance 2
  | ld_mem_v x => exact exec_ld_mem_v_succeeds fun h => (hi.setBytes (by simpa [State.regsUpTo] using h)).advance 2
  | ld_v_mem x => exact exec_ld_v_mem_succeeds fun _ => (hi.setV _).advance 2
  | _ => exact .next { hi with pc := mask12_le _ }

end

/-- Settles O11: the ways of `step_answers_by_case`, with `Inv.raise` and `exec_keeps_inv`. -/
theorem stepKeepsTheInvariant : Obligations.StepKeepsTheInvariant := by
  intro s t hi h
  obtain ⟨-, rfl⟩ | ⟨-, k, rfl⟩ | ⟨-, i, u, he, hu, rfl⟩ := (step_answers_by_case s).of_next h
  · exact hi
  · exact hi.raise k
  · exact ((exec_keeps_inv i hi).of_next he hu).timerAdvance

/-- Settles O10: only an admissible configuration builds a machine, and then `Inv.ofConfig`. -/
theorem constructedMachineMeetsTheInvariant : Obligations.ConstructedMachineMeetsTheInvariant := by
  intro cfg s h
  unfold construct at h
  split at h
  next hcfg =>
    cases h
    exact .ofConfig hcfg
  next => cases h

theorem Loaded.inv {s : State} (h : Loaded s) : Inv s := by
  induction h with
  | construct h => exact constructedMachineMeetsTheInvariant _ _ h
  | load _ h hi =>
    obtain ⟨hfit, rfl⟩ := State.loadImage_next h
    exact hi.setBytes hfit

/-- Settles O12, by induction on how the host came to the state. -/
theorem reachableStatesMeetTheInvariant : Obligations.ReachableStatesMeetTheInvariant := by
  intro s h
  induction h with
  | loaded h => exact h.inv
  | present input _ hi => exact { hi with }
  | step _ h hi => exact stepKeepsTheInvariant _ _ hi h

/-! ### The frame of an instruction (10_state.md R22, R23, R33 to R39) -/

section
variable {parts : List Part} {regs : List Reg} {s t : State}

theorem Part.agree_trans {u : State} {p : Part} (hst : p.agree s t) (htu : p.agree t u) : p.agree s u := by
  cases p with
  | memory => exact fun a => (htu a).trans (hst a)
  | counters => exact ⟨htu.1.trans hst.1, htu.2.trans hst.2⟩
  | random => exact ⟨htu.1.trans hst.1, htu.2.trans hst.2⟩
  | _ => exact htu.trans hst

theorem SameBut.refl : SameBut parts regs s s :=
  ⟨fun p _ => by cases p <;> simp [Part.agree], fun _ _ => rfl⟩

/-- An update that touches one listed part and no register stays within the frame. (Here and below, that the part or the
register is listed is found by looking it up among those of the instruction.) -/
theorem SameBut.write {u : State} (q : Part) (h : SameBut parts regs s t)
    (hq : q ∈ parts := by simp [writtenParts])
    (hregs : ∀ r, u.reg r = t.reg r := by exact fun _ => rfl)
    (hparts : ∀ p, p ≠ q → p.agree t u := by intro p hp; cases p <;> simp_all [Part.agree, State.byte]) :
    SameBut parts regs s u :=
  ⟨fun p hp => Part.agree_trans (h.1 p hp) (hparts p (ne_of_mem_of_not_mem hq hp).symm),
    fun r hr => (hregs r).trans (h.2 r hr)⟩

theorem SameBut.setV (h : SameBut parts regs s t) {V : Vector Byte 16} (hV : ∀ r : Reg, r ∉ regs → V[r] = t.reg r) :
    SameBut parts regs s { t with V := V } :=
  ⟨fun p hp => Part.agree_trans (h.1 p hp) (by cases p <;> simp [Part.agree, State.byte]),
    fun r hr => (hV r hr).trans (h.2 r hr)⟩

theorem SameBut.setReg (h : SameBut parts regs s t) (x : Reg) (b : Byte) (hx : x ∈ regs := by simp [writtenRegs]) :
    SameBut parts regs s (t.setReg x b) :=
  h.setV fun _ hr => t.reg_setReg_ne (ne_of_mem_of_not_mem hx hr).symm b

theorem SameBut.setI (h : SameBut parts regs s t) (a : Word) (hq : .index ∈ parts := by simp [writtenParts]) :
    SameBut parts regs s (t.setI a) :=
  h.write .index hq

theorem SameBut.jumpTo (h : SameBut parts regs s t) (a : Word) (hq : .pc ∈ parts := by simp [writtenParts]) :
    SameBut parts regs s (t.jumpTo a) :=
  h.write .pc hq

theorem SameBut.advance (h : SameBut parts regs s t) (k : Nat) (hq : .pc ∈ parts := by simp [writtenParts]) :
    SameBut parts regs s (t.advance k) :=
  h.jumpTo _ hq

theorem SameBut.setStack (h : SameBut parts regs s t) (l : List Word) (hq : .stack ∈ parts := by simp [writtenParts]) :
    SameBut parts regs s { t with stack := l } :=
  h.write .stack hq

theorem SameBut.setBytes (h : SameBut parts regs s t) (a : Nat) (bs : List Byte)
    (hq : .memory ∈ parts := by simp [writtenParts]) : SameBut parts regs s (t.setBytes a bs) :=
  h.write .memory hq

theorem SameBut.randomTaken (h : SameBut parts regs s t) (hq : .random ∈ parts := by simp [writtenParts]) :
    SameBut parts regs s t.randomTaken :=
  h.write .random hq t.reg_randomTaken

theorem SameBut.flagThenResult (h : SameBut parts regs s t) (x : Reg) (f : Bool) (b : Byte)
    (hx : x ∈ regs := by simp [writtenRegs]) (hvf : vf ∈ regs := by simp [writtenRegs]) :
    SameBut parts regs s (t.flagThenResult x f b) :=
  (h.setReg vf _ hvf).setReg x b hx

theorem SameBut.drawSprite (h : SameBut parts regs s t) (x0 y0 : Nat) (rows : List Byte)
    (hq : .display ∈ parts := by simp [writtenParts]) (hvf : vf ∈ regs := by simp [writtenRegs]) :
    SameBut parts regs s (t.drawSprite x0 y0 rows) :=
  (h.setReg vf _ hvf).write .display hq

theorem SameBut.loadRegs (h : SameBut parts regs s t) (x : Reg) (a : Nat)
    (hx : ∀ r, r ≤ x → r ∈ regs := by simp [writtenRegs]) : SameBut parts regs s (t.loadRegs x a) :=
  h.setV fun r hr => (t.reg_loadRegs x r a).trans (if_neg fun hle => hr (hx r hle))

end

/-- What an instruction that succeeds leaves alone. -/
theorem exec_sameBut (i : Instr) (s : State) : Succeeds (exec i s) (SameBut (writtenParts i) (writtenRegs i) s) := by
  cases i with
  | cls => exact .next ((SameBut.refl.write .display).advance 2)
  | ret => exact exec_ret_succeeds fun top _ => (SameBut.refl.setStack _).jumpTo top
  | call nnn => exact exec_call_succeeds fun _ => (SameBut.refl.setStack _).jumpTo _
  | jmp _ | jmp_v0 _ | se_v_b _ _ | sne_v_b _ _ | se_v_v _ _ | sne_v_v _ _ | skp_v _ | sknp_v _ =>
    exact .next (SameBut.refl.jumpTo _)
  | ld_v_b x _ | add_v_b x _ | ld_v_v x _ | or_v_v x _ | and_v_v x _ | xor_v_v x _ | ld_v_dt x =>
    exact .next ((SameBut.refl.setReg x _).advance 2)
  | add_v_v x _ | sub_v_v x _ | subn_v_v x _ | shr_v x | shl_v x =>
    exact .next ((SameBut.refl.flagThenResult x _ _).advance 2)
  | ld_i _ | add_i_v _ => exact .next ((SameBut.refl.setI _).advance 2)
  | ld_f_v x => exact exec_ld_f_v_succeeds fun _ => (SameBut.refl.setI _).advance 2
  | rnd_v_b x kk => exact .next ((SameBut.refl.randomTaken.setReg x _).advance 2)
  | drw x y n => exact exec_drw_succeeds fun _ _ => (SameBut.refl.drawSprite _ _ _).advance 2
  | ld_v_k x => exact exec_ld_v_k_succeeds (fun _ _ => (SameBut.refl.setReg x _).advance 2) fun _ => .refl
  | ld_dt_v x => exact .next ((SameBut.refl.write .delay).advance 2)
  | ld_st_v x => exact .next ((SameBut.refl.write .sound).advance 2)
  | ld_b_v x => exact exec_ld_b_v_succeeds fun _ => (SameBut.refl.setBytes _ _).advance 2
  | ld_mem_v x => exact exec_ld_mem_v_succeeds fun _ => (SameBut.refl.setBytes _ _).advance 2
  | ld_v_mem x => exact exec_ld_v_mem_succeeds fun _ => (SameBut.refl.loadRegs x _).advance 2

/-- Settles O54: `exec_sameBut`, instruction by instruction from the rules of the operations. -/
theorem onlyItsWritersChangeAPart : Obligations.OnlyItsWritersChangeAPart :=
  fun i s _ _ h ht => (exec_sameBut i s).of_next h ht

/-- What sets the `pc` to something else than `pc + 2` is in the list of R28; the rest ends with `advance 2`. -/
theorem exec_pc_of_not_redirects {i : Instr} (hr : redirects i = false) (s : State) :
    Succeeds (exec i s) fun t => t.pc = mask12 (s.pc.toNat + 2) := by
  cases i with
  | jmp _ | call _ | ret | jmp_v0 _ | se_v_b _ _ | sne_v_b _ _ | se_v_v _ _ | sne_v_v _ _ | skp_v _ | sknp_v _
  | ld_v_k _ => cases hr
  | drw x y n => exact exec_drw_succeeds fun _ _ => rfl
  | ld_f_v x => exact exec_ld_f_v_succeeds fun _ => rfl
  | ld_b_v x => exact exec_ld_b_v_succeeds fun _ => rfl
  | ld_mem_v x => exact exec_ld_mem_v_succeeds fun _ => rfl
  | ld_v_mem x => exact exec_ld_v_mem_succeeds fun _ => by simp
  | rnd_v_b x kk => exact .next (by simp)
  | _ => exact .next rfl

/-- Settles O55: `exec_pc_of_not_redirects` read as a number (the mask is decision D11). -/
theorem pcAdvancesByTwoUnlessRedirected : Obligations.PcAdvancesByTwoUnlessRedirected := by
  intro i s t hr _ h ht
  rw [(exec_pc_of_not_redirects hr s).of_next h ht, mask12_toNat]

/-! ### Flag first, result second (10_state.md R31) -/

theorem carry_toNat (a b : Byte) : (carry a b).toNat = if a.toNat + b.toNat > 255 then 1 else 0 := by
  unfold carry
  split <;> simp [*]

theorem notBorrow_toNat (a b : Byte) : (notBorrow a b).toNat = if a.toNat < b.toNat then 0 else 1 := by
  unfold notBorrow
  split <;> simp [*]

theorem bit0_toNat (a : Byte) : (bit0 a).toNat = a.toNat % 2 := by
  obtain h | h := Nat.mod_two_eq_zero_or_one a.toNat <;> simp [bit0, h]

theorem bit7_toNat (a : Byte) : (bit7 a).toNat = a.toNat / 128 := by
  obtain h | h : a.toNat / 128 = 0 ∨ a.toNat / 128 = 1 := by omega
  all_goals simp [bit7, h]

/-- The number the wrapped difference stands for: a borrow is paid back by 256 (42_alu.md R167). -/
theorem sub_eq_ofNat (a b : Byte) : a - b = BitVec.ofNat 8 (256 + a.toNat - b.toNat) := by
  bv_omega

/-- The register file after a flag instruction, its flag and its result given as numbers. -/
theorem State.flagThenResult_V_of {s : State} {x : Reg} {f : Bool} {b : Byte} {flag result : Nat} (hf : f.toNat = flag)
    (hb : b = BitVec.ofNat 8 result) :
    (s.flagThenResult x f b).V = (s.V.set 15 (BitVec.ofNat 8 flag)).set x (BitVec.ofNat 8 result) := by
  rw [State.flagThenResult_V, flagByte_of, hf, hb]

/-- Settles O35: `State.flagThenResult_V_of` with the flag and the result of each of the five. -/
theorem flagIsWrittenBeforeTheResult : Obligations.FlagIsWrittenBeforeTheResult := by
  intro s x y a b flagFirst
  refine ⟨⟨_, rfl, ?add⟩, ⟨_, rfl, ?sub⟩, ⟨_, rfl, ?subn⟩, ⟨_, rfl, ?shr⟩, ⟨_, rfl, ?shl⟩⟩
  case add => exact State.flagThenResult_V_of (carry_toNat _ _) (by bv_omega)
  case sub => exact State.flagThenResult_V_of (notBorrow_toNat _ _) (sub_eq_ofNat _ _)
  case subn => exact State.flagThenResult_V_of (notBorrow_toNat _ _) (sub_eq_ofNat _ _)
  case shr => exact State.flagThenResult_V_of (bit0_toNat _) (by bv_omega)
  case shl => exact State.flagThenResult_V_of (bit7_toNat _) (by bv_omega)

/-! ### What an instruction does not read (10_state.md R33, R34, R37) -/

/-- Other values for the parts that few instructions read or none does: the keypad, the timers, their counters, and the
random Byte presented (60_exceptions.md R269). A part left at `none` keeps its value. -/
structure Overlay where
  keys : Option (Vector Bool 16) := none
  DT : Option Byte := none
  ST : Option Byte := none
  CD : Option Nat := none
  CS : Option Nat := none
  rnd : Option (Option Byte) := none

def Overlay.apply (o : Overlay) (s : State) : State :=
  { s with
    keys := o.keys.getD s.keys
    DT := o.DT.getD s.DT
    ST := o.ST.getD s.ST
    CD := o.CD.getD s.CD
    CS := o.CS.getD s.CS
    rnd := o.rnd.getD s.rnd }

/-- The range check reads only `I`, and the state after a fault takes the free value of the same index. -/
theorem Overlay.guardRange (o : Overlay) {s t u : State} {n : Nat} (hu : u = o.apply t) :
    (o.apply s).guardRange n u = mapNext o.apply (s.guardRange n t) := by
  subst hu
  by_cases h : s.I.toNat + n ≤ 4096
  · rw [s.guardRange_inside t h, (o.apply s).guardRange_inside (o.apply t) h]
    rfl
  · rw [s.guardRange_outside t (Nat.not_le.1 h), (o.apply s).guardRange_outside (o.apply t) (Nat.not_le.1 h)]
    rfl

theorem Overlay.advance (o : Overlay) (s : State) (k : Nat) : (o.apply s).advance k = o.apply (s.advance k) := rfl

theorem Overlay.loadRegs (o : Overlay) (s : State) (x : Reg) (a : Nat) :
    (o.apply s).loadRegs x a = o.apply (s.loadRegs x a) := by
  unfold State.loadRegs Overlay.apply
  rfl

/-- An instruction runs the same under other values of the parts it does not read. -/
theorem exec_overlay (o : Overlay) (i : Instr) (s : State)
    (hkeys : readsKeys i = true → o.keys = none := by intros; rfl)
    (hDT : ∀ x, i = .ld_v_dt x ∨ i = .ld_dt_v x → o.DT = none := by intros; rfl)
    (hST : ∀ x, i = .ld_st_v x → o.ST = none := by intros; rfl)
    (hrnd : ∀ x kk, i = .rnd_v_b x kk → o.rnd = none := by intros; rfl) :
    exec i (o.apply s) = mapNext o.apply (exec i s) := by
  cases i with
  | ret =>
    simp only [exec, exec_ret, show (o.apply s).stack = s.stack from rfl]
    cases s.stack.getLast? <;> rfl
  | call nnn =>
    simp only [exec, exec_call, show (o.apply s).stack = s.stack from rfl]
    split <;> rfl
  | ld_f_v x =>
    simp only [exec, exec_ld_f_v, show (o.apply s).reg x = s.reg x from rfl]
    split <;> rfl
  | drw x y n =>
    simp only [exec, exec_drw]
    split
    · rfl
    · exact o.guardRange rfl
  | ld_b_v x => exact o.guardRange rfl
  | ld_mem_v x => exact o.guardRange rfl
  | ld_v_mem x =>
    simp only [exec, exec_ld_v_mem, o.loadRegs, o.advance]
    exact o.guardRange rfl
  | skp_v x | sknp_v x =>
    cases o
    cases hkeys rfl
    rfl
  | ld_v_k x =>
    have hlow : (o.apply s).lowestKey = s.lowestKey := by
      cases o
      cases hkeys rfl
      rfl
    simp only [exec, exec_ld_v_k, hlow]
    cases s.lowestKey <;> rfl
  | ld_v_dt x =>
    cases o
    cases hDT x (.inl rfl)
    rfl
  | ld_dt_v x =>
    cases o
    cases hDT x (.inr rfl)
    rfl
  | ld_st_v x =>
    cases o
    cases hST x rfl
    rfl
  | rnd_v_b x kk =>
    cases o
    cases hrnd x kk rfl
    simp only [exec, exec_rnd_v_b, State.randomTaken, State.randomByte, Overlay.apply, Option.getD_none]
    cases s.rnd <;> rfl
  | _ => rfl

/-- Settles O56: no step writes the keypad by `step_keeps_cfg_and_keys`, and `exec_overlay` with another keypad. -/
theorem keypadIsReadByThreeAndWrittenByNone : Obligations.KeypadIsReadByThreeAndWrittenByNone := by
  refine ⟨fun s t h => ((step_keeps_cfg_and_keys s).of_next h).2, fun i s keys hi => ?_⟩
  exact exec_overlay { keys := some keys } i s (hkeys := fun h => absurd (hi.symm.trans h) nofun)

/-- Settles O57: `exec_overlay` with another sound timer, another delay timer, other counters. -/
theorem timersAreReadOnlyByTheDelayRead : Obligations.TimersAreReadOnlyByTheDelayRead := by
  intro i s
  refine ⟨fun b hi => ?sound, fun b hi => ?delay, fun c d => ?counters⟩
  case sound => exact exec_overlay { ST := some b } i s (hST := fun x h => absurd h (hi x))
  case delay => exact exec_overlay { DT := some b } i s (hDT := fun x h => absurd h (not_or.2 (hi x)))
  case counters => exact exec_overlay { CD := some c, CS := some d } i s

end Sys2Proof.Machine

/-! SUPPORT. The family 20_memory.md: what memory holds at construction, the two boundary fetches, and a register store
read back by a fetch. -/

namespace Sys2Proof.Machine

/-! ### Memory at construction (20_memory.md R66) -/

/-- A configuration builds a machine exactly when its font table has 80 Bytes and fits in memory. -/
theorem admissible_iff {cfg : Config} : admissible cfg = true ↔ cfg.glyphs.length = 80 ∧ cfg.fontBase + 80 ≤ 4096 := by
  simp [admissible, fontSize, memSize]

theorem construct_next {cfg : Config} {s : State} (h : construct cfg = .next s) :
    admissible cfg = true ∧ s = State.ofConfig cfg := by
  unfold construct at h
  split at h
  next hcfg =>
    cases h
    exact ⟨hcfg, rfl⟩
  next => cases h

@[simp] theorem State.byte_ofConfig (cfg : Config) (a : Nat) : (State.ofConfig cfg).byte a = unlistedByte cfg a := rfl

theorem unlistedByte_font {cfg : Config} {k : Nat} (h : k < cfg.glyphs.length) :
    unlistedByte cfg (cfg.fontBase + k) = cfg.glyphs[k] := by
  simp [unlistedByte, h]

theorem unlistedByte_outside_font {cfg : Config} {a : Nat}
    (h : a < cfg.fontBase ∨ cfg.fontBase + cfg.glyphs.length ≤ a) : unlistedByte cfg a = 0x00#8 := by
  obtain hbelow | habove := h
  · exact if_neg (Nat.not_le.2 hbelow)
  · rw [unlistedByte, if_pos (by omega), List.getD_eq_default _ _ (by omega)]

/-- Settles O21: a constructed machine lists nothing, and `unlistedByte` is the font table with zeros around it. -/
theorem constructedMemoryIsZeroExceptTheFont : Obligations.ConstructedMemoryIsZeroExceptTheFont := by
  intro cfg s h
  obtain ⟨hcfg, rfl⟩ := construct_next h
  obtain ⟨hlen, -⟩ := admissible_iff.1 hcfg
  exact ⟨hlen, fun k hk => (State.byte_ofConfig cfg _).trans (unlistedByte_font hk),
    fun a ha => (State.byte_ofConfig cfg a).trans (unlistedByte_outside_font (by rwa [hlen]))⟩

/-! ### Fetch at the top of memory (20_memory.md R72) -/

theorem step_of_fetch_none {s : State} (hs : s.running) (hf : s.fetch = none) :
    step s = .next (s.raise .invalid_address) := by
  obtain ⟨hne, -⟩ | ⟨-, -, h⟩ | ⟨w, -, hw, -⟩ | ⟨w, i, -, hw, -⟩ := step_cases s
  · exact absurd hs hne
  · exact h
  · cases hf.symm.trans hw
  · cases hf.symm.trans hw

/-- Settles O4: two Bytes from 0xFFE end at the top of memory, two from 0xFFF do not fit, and a failed fetch is recorded
with the `pc`. -/
theorem fetchAtTheTopOfMemory : Obligations.FetchAtTheTopOfMemory := by
  refine fun s => ⟨fun hpc => ?_, fun hpc => ?_⟩
  · rw [s.fetch_inside (by omega), hpc]
  · have hf : s.fetch = none := s.fetch_outside (by omega)
    have hpc' : s.pc = 0xFFF#16 := BitVec.eq_of_toNat_eq hpc
    exact ⟨hf, fun hs => ⟨_, step_of_fetch_none hs hf, by simp [hpc']⟩⟩

/-! ### A register store read back by a fetch (20_memory.md R79) -/

@[simp] theorem State.length_regsUpTo (s : State) (x : Reg) : (s.regsUpTo x).length = x.val + 1 := by
  simp [State.regsUpTo]

theorem State.getElem_regsUpTo (s : State) {x j : Reg} (h : j.val < (s.regsUpTo x).length) :
    (s.regsUpTo x)[j.val] = s.reg j := by
  simp [State.regsUpTo]

theorem exec_ld_mem_v_inside {s : State} {x : Reg} (h : s.spans (x.val + 1)) :
    exec (.ld_mem_v x) s = .next ((s.setBytes s.I.toNat (s.regsUpTo x)).advance 2) :=
  s.guardRange_inside _ h

/-- 45_keypad_timer_misc.md R236: the store of V[0] to V[x] leaves V[j] at `I + j`. -/
theorem byte_of_exec_ld_mem_v {s t : State} {x : Reg} (hm : s.mem.wf s.cfg) (hI : s.spans (x.val + 1))
    (h : exec (.ld_mem_v x) s = .next t) {j : Reg} (hj : j ≤ x) : t.byte (s.I.toNat + j.val) = s.reg j := by
  cases (exec_ld_mem_v_inside hI).symm.trans h
  have hlt : j.val < (s.regsUpTo x).length := by rw [s.length_regsUpTo]; exact Nat.lt_succ_of_le hj
  rw [State.byte_advance, s.byte_setBytes_inside hm (by rwa [s.length_regsUpTo]) hlt, s.getElem_regsUpTo]

/-- Settles O50: both Bytes of the word come from `byte_of_exec_ld_mem_v`. -/
theorem storedBytesAreFetched : Obligations.StoredBytesAreFetched := by
  intro s t x j hm hI h k hk hkj target htarget
  have stored {r : Reg} (hr : r ≤ x) : t.byte (s.I.toNat + r.val) = s.reg r := byte_of_exec_ld_mem_v hm hI h hr
  have hkx : k.val ≤ x.val := hk
  have hj : j ≤ x := Fin.le_def.2 (by omega)
  have inside : target.toNat + 2 ≤ 4096 := by omega
  rw [State.fetch_inside _ inside, State.jumpTo_pc, State.byte_jumpTo, State.byte_jumpTo, htarget, Nat.add_assoc, ← hkj,
    stored hj, stored hk]

end Sys2Proof.Machine

/-! SUPPORT. The family 30_encoding.md: decode and encode undo each other, the fixed bits of a decoded word, and which words
decode to nothing. -/

namespace Sys2Proof

/-! ### Decode after encode (30_encoding.md R95) -/

/-- Settles O14: the fields of an encoded word are the operands, shape by shape (`fields_encodeA` and its like), and its
high nibble and its low nibble or Byte are those `decode` selects by. -/
theorem decodeOfEncodeIsTheInstruction : Obligations.DecodeOfEncodeIsTheInstruction := by
  intro i hi
  cases i with
  | cls | ret => rfl
  | jmp nnn | call nnn | ld_i nnn | jmp_v0 nnn => simp [encode, decode, fields_encodeA]
  | se_v_b x kk | sne_v_b x kk | ld_v_b x kk | add_v_b x kk | rnd_v_b x kk => simp [encode, decode, fields_encodeRB]
  | se_v_v x y | sne_v_v x y => simp [encode, decode, fields_encodeRRN]
  | ld_v_v x y | or_v_v x y | and_v_v x y | xor_v_v x y | add_v_v x y | sub_v_v x y | subn_v_v x y | shr_v x | shl_v x =>
    simp [encode, decode, decodeGroup8, fields_encodeRRN]
  | drw x y n =>
    have hn : n ≤ 15 := of_decide_eq_true hi
    simp [encode, decode, fields_encodeRRN, Nat.mod_eq_of_lt (Nat.lt_succ_of_le hn)]
  | skp_v x | sknp_v x => simp [encode, decode, decodeGroupE, fields_encodeR]
  | ld_v_dt x | ld_v_k x | ld_dt_v x | ld_st_v x | add_i_v x | ld_f_v x | ld_b_v x | ld_mem_v x | ld_v_mem x =>
    simp [encode, decode, decodeGroupF, fields_encodeR]

/-! ### The selectors of a word as arithmetic on its value -/

theorem bits_15_12 (w : Word) : bits w 15 12 = w.toNat / 4096 := by
  simp only [bits]; omega

theorem bits_7_0 (w : Word) : bits w 7 0 = w.toNat % 256 := by
  simp [bits]

theorem fieldN_eq (w : Word) : fieldN w = w.toNat % 16 := by
  simp [fieldN, bits]

theorem fieldN_le (w : Word) : fieldN w ≤ 15 := by
  rw [fieldN_eq]; omega

theorem fieldX_val (w : Word) : (fieldX w).val = w.toNat / 256 % 16 := by
  simp [fieldX, regOf, bits]

theorem fieldY_val (w : Word) : (fieldY w).val = w.toNat / 16 % 16 := by
  simp [fieldY, regOf, bits]

theorem fieldKK_toNat (w : Word) : (fieldKK w).toNat = w.toNat % 256 := by
  simp [fieldKK, bits]

theorem fieldNNN_toNat (w : Word) : (fieldNNN w).toNat = w.toNat % 4096 := by
  simp [fieldNNN, bits]

theorem and_FF00 (w : Word) : (w &&& 0xFF00#16).toNat = w.toNat / 256 * 256 := by
  have shifts : w &&& 0xFF00#16 = w >>> 8 <<< 8 := by
    ext i hi
    interval_cases i <;> simp
  rw [shifts, BitVec.toNat_shiftLeft, BitVec.toNat_ushiftRight, Nat.shiftRight_eq_div_pow, Nat.shiftLeft_eq]
  omega

theorem and_FF0F (w : Word) : (w &&& 0xFF0F#16).toNat = w.toNat / 256 * 256 + w.toNat % 16 := by
  rw [← and_FF00, ← and_000F]
  exact and_union w 0xFF00#16 0x000F#16 rfl (by rw [and_FF00, and_000F]; omega)

/-! ### A word rebuilt from its fields, shape by shape (30_encoding.md R92) -/

section
variable {w : Word} {op : Nat} (hop : bits w 15 12 = op)
include hop

theorem encodeA_fields : encodeA op (fieldNNN w) = w := by
  apply BitVec.eq_of_toNat_eq
  rw [bits_15_12] at hop
  rw [encodeA, fieldNNN_toNat, toNat_ofNat16 (by omega)]
  omega

theorem encodeRB_fields : encodeRB op (fieldX w) (fieldKK w) = w := by
  apply BitVec.eq_of_toNat_eq
  rw [bits_15_12] at hop
  rw [encodeRB, fieldX_val, fieldKK_toNat, toNat_ofNat16 (by omega)]
  omega

theorem encodeRRN_fields {n : Nat} (hn : fieldN w = n) : encodeRRN op (fieldX w) (fieldY w) n = w := by
  apply BitVec.eq_of_toNat_eq
  rw [bits_15_12] at hop
  rw [fieldN_eq] at hn
  rw [encodeRRN, fieldX_val, fieldY_val, toNat_ofNat16 (by omega)]
  omega

theorem encodeR_fields {sub : Nat} (hsub : bits w 7 0 = sub) : encodeR op (fieldX w) sub = w := by
  apply BitVec.eq_of_toNat_eq
  rw [bits_15_12] at hop
  rw [bits_7_0] at hsub
  rw [encodeR, fieldX_val, toNat_ofNat16 (by omega)]
  omega

/-- The shifts (30_encoding.md R98): bits 7:4 of the word come back 0. -/
theorem encodeRRN_shift_fields {n : Nat} (hn : fieldN w = n) : encodeRRN op (fieldX w) 0 n = w &&& 0xFF0F#16 := by
  apply BitVec.eq_of_toNat_eq
  rw [bits_15_12] at hop
  rw [fieldN_eq] at hn
  rw [and_FF0F, encodeRRN, fieldX_val, Fin.val_zero, toNat_ofNat16 (by omega)]
  omega

end

/-! ### What a decoded word carries (30_encoding.md R93, R95, R98, R103) -/

/-- The word `w` without the bits that `i` does not care about: bits 7:4 of a shift (30_encoding.md R98). -/
def Instr.clearDontCare (i : Instr) (w : Word) : Word :=
  match i with
  | .shr_v _ | .shl_v _ => w &&& 0xFF0F#16
  | _ => w

/-- The operands of `i` fit their fields, and `w` is the word of `i` but for its don't-care bits. -/
def Instr.IsCarriedBy (i : Instr) (w : Word) : Prop :=
  i.wellFormed = true ∧ encode i = i.clearDontCare w

section
variable {w : Word} {i : Instr}

theorem isCarriedBy_of_decodeGroup0 (h : decodeGroup0 w = some i) : i.IsCarriedBy w := by
  rw [decodeGroup0] at h
  split_ifs at h with hcls hret <;> cases h
  · exact ⟨rfl, hcls.symm⟩
  · exact ⟨rfl, hret.symm⟩

theorem isCarriedBy_of_decodeGroup8 (hop : bits w 15 12 = 8) (h : decodeGroup8 w = some i) : i.IsCarriedBy w := by
  unfold decodeGroup8 at h
  split at h <;> cases h
  case h_7 hn | h_9 hn => exact ⟨rfl, encodeRRN_shift_fields hop hn⟩
  all_goals exact ⟨rfl, encodeRRN_fields hop ‹_›⟩

theorem isCarriedBy_of_decodeGroupE (hop : bits w 15 12 = 14) (h : decodeGroupE w = some i) : i.IsCarriedBy w := by
  unfold decodeGroupE at h
  split at h <;> cases h
  all_goals exact ⟨rfl, encodeR_fields hop ‹_›⟩

theorem isCarriedBy_of_decodeGroupF (hop : bits w 15 12 = 15) (h : decodeGroupF w = some i) : i.IsCarriedBy w := by
  unfold decodeGroupF at h
  split at h <;> cases h
  all_goals exact ⟨rfl, encodeR_fields hop ‹_›⟩

/-- What `decode` can answer, said once: an instruction that the word carries. Case `h_k` is group `k - 1`, and the cases
of one line are the groups of one shape. -/
theorem isCarriedBy_of_decode (h : decode w = some i) : i.IsCarriedBy w := by
  unfold decode at h
  split at h
  case h_1 => exact isCarriedBy_of_decodeGroup0 h
  case h_2 hop | h_3 hop | h_11 hop | h_12 hop => cases h; exact ⟨rfl, encodeA_fields hop⟩
  case h_4 hop | h_5 hop | h_7 hop | h_8 hop | h_13 hop => cases h; exact ⟨rfl, encodeRB_fields hop⟩
  case h_6 hop | h_10 hop =>
    split_ifs at h with hn
    cases h; exact ⟨rfl, encodeRRN_fields hop hn⟩
  case h_9 hop => exact isCarriedBy_of_decodeGroup8 hop h
  case h_14 hop => cases h; exact ⟨decide_eq_true (fieldN_le w), encodeRRN_fields hop rfl⟩
  case h_15 hop => exact isCarriedBy_of_decodeGroupE hop h
  case h_16 hop => exact isCarriedBy_of_decodeGroupF hop h
  case h_17 => cases h

end

/-- Settles O15: the match of the statement is `Instr.clearDontCare`. -/
theorem encodeOfDecodeIsTheWord : Obligations.EncodeOfDecodeIsTheWord := by
  intro w i h
  obtain ⟨-, hword⟩ := isCarriedBy_of_decode h
  exact hword

/-! ### The fixed bits of a decoded word -/

open Laws in
theorem encode_and_mask : ∀ i : Instr, encode i &&& (tableRow i).2 = (tableRow i).1
  | .cls => FixedBits.cls
  | .ret => FixedBits.ret
  | .jmp nnn => FixedBits.jmp nnn
  | .call nnn => FixedBits.call nnn
  | .se_v_b x kk => FixedBits.se_v_b x kk
  | .sne_v_b x kk => FixedBits.sne_v_b x kk
  | .se_v_v x y => FixedBits.se_v_v x y
  | .ld_v_b x kk => FixedBits.ld_v_b x kk
  | .add_v_b x kk => FixedBits.add_v_b x kk
  | .ld_v_v x y => FixedBits.ld_v_v x y
  | .or_v_v x y => FixedBits.or_v_v x y
  | .and_v_v x y => FixedBits.and_v_v x y
  | .xor_v_v x y => FixedBits.xor_v_v x y
  | .add_v_v x y => FixedBits.add_v_v x y
  | .sub_v_v x y => FixedBits.sub_v_v x y
  | .shr_v x => FixedBits.shr_v x
  | .subn_v_v x y => FixedBits.subn_v_v x y
  | .shl_v x => FixedBits.shl_v x
  | .sne_v_v x y => FixedBits.sne_v_v x y
  | .ld_i nnn => FixedBits.ld_i nnn
  | .jmp_v0 nnn => FixedBits.jmp_v0 nnn
  | .rnd_v_b x kk => FixedBits.rnd_v_b x kk
  | .drw x y n => FixedBits.drw x y n
  | .skp_v x => FixedBits.skp_v x
  | .sknp_v x => FixedBits.sknp_v x
  | .ld_v_dt x => FixedBits.ld_v_dt x
  | .ld_v_k x => FixedBits.ld_v_k x
  | .ld_dt_v x => FixedBits.ld_dt_v x
  | .ld_st_v x => FixedBits.ld_st_v x
  | .add_i_v x => FixedBits.add_i_v x
  | .ld_f_v x => FixedBits.ld_f_v x
  | .ld_b_v x => FixedBits.ld_b_v x
  | .ld_mem_v x => FixedBits.ld_mem_v x
  | .ld_v_mem x => FixedBits.ld_v_mem x

/-- A row's mask selects no don't-care bit. -/
theorem clearDontCare_and_mask (i : Instr) (w : Word) : i.clearDontCare w &&& (tableRow i).2 = w &&& (tableRow i).2 := by
  cases i with
  | shr_v x | shl_v x => exact BitVec.and_assoc w 0xFF0F#16 0xF00F#16
  | _ => rfl

/-- Settles O16: under the row's mask the word is its instruction's encoding, which carries the row's fixed bits. -/
theorem decodedWordCarriesItsRowsFixedBits : Obligations.DecodedWordCarriesItsRowsFixedBits := by
  intro w i h
  obtain ⟨hwf, hword⟩ := isCarriedBy_of_decode h
  refine ⟨hwf, ?_⟩
  rw [← clearDontCare_and_mask, ← hword, encode_and_mask]

/-! ### The undecodable words, group by group (30_encoding.md R96, R97, R99) -/

theorem decodeGroup0_eq_none {w : Word} : decodeGroup0 w = none ↔ w ≠ 0x00E0#16 ∧ w ≠ 0x00EE#16 := by
  rw [decodeGroup0]
  split_ifs with hcls hret
  · simp [hcls]
  · simp [hret]
  · exact iff_of_true rfl ⟨hcls, hret⟩

theorem decodeGroup8_eq_none {w : Word} : decodeGroup8 w = none ↔ w.toNat % 16 ∈ [8, 9, 10, 11, 12, 13, 15] := by
  rw [decodeGroup8, fieldN_eq]
  have hlt : w.toNat % 16 < 16 := Nat.mod_lt _ (by decide)
  interval_cases w.toNat % 16 <;> simp

theorem decodeGroupE_eq_none {w : Word} : decodeGroupE w = none ↔ w.toNat % 256 ∉ [0x9E, 0xA1] := by
  rw [decodeGroupE, bits_7_0]
  split
  all_goals simp_all

theorem decodeGroupF_eq_none {w : Word} :
    decodeGroupF w = none ↔ w.toNat % 256 ∉ [0x07, 0x0A, 0x15, 0x18, 0x1E, 0x29, 0x33, 0x55, 0x65] := by
  rw [decodeGroupF, bits_7_0]
  split
  all_goals simp_all

/-- Settles O17: in each group `decode` gives up as the group's lemma says, and in the ten groups assigned in full it never
does. Case `h_k` is group `k - 1`. -/
theorem undecodableWordsAreExactlyTheUnassigned : Obligations.UndecodableWordsAreExactlyTheUnassigned := by
  intro w
  have low : w.toNat < 0x1000 ↔ w.toNat / 4096 = 0 := by omega
  rw [decode, bits_15_12, low]
  split
  case h_1 hop => simp [hop, decodeGroup0_eq_none]
  case h_2 hop | h_3 hop | h_4 hop | h_5 hop | h_7 hop | h_8 hop | h_11 hop | h_12 hop | h_13 hop | h_14 hop => simp [hop]
  case h_6 hop | h_10 hop => simp [hop, fieldN_eq]
  case h_9 hop => simp [hop, decodeGroup8_eq_none]
  case h_15 hop => simp [hop, decodeGroupE_eq_none]
  case h_16 hop => simp [hop, decodeGroupF_eq_none]
  case h_17 => simp only [imp_false] at *; omega

/-- Settles O18: the decoder is run on each word. -/
theorem wordsWrittenOutDecode : Obligations.WordsWrittenOutDecode := by
  unfold Obligations.WordsWrittenOutDecode
  decide

end Sys2Proof

/-! SUPPORT. The family 40_control_flow.md: where `call` and `ret` go in each case of the stack, and that a pop takes back
a push. -/

namespace Sys2Proof.Machine

section
variable {s : State}

/-! ### The cases of `call` and `ret` (40_control_flow.md R121, R122) -/

theorem exec_call_of_room (h : s.stack.length < 16) (nnn : Field12) :
    exec (.call nnn) s = .next ((s.push (mask12 (s.pc.toNat + 2))).jumpTo (addressOf nnn)) :=
  if_neg (Nat.not_le.2 h)

theorem exec_call_of_full (h : 16 ≤ s.stack.length) (nnn : Field12) :
    exec (.call nnn) s = .next (s.raise .full_stack) :=
  if_pos h

theorem exec_ret_of_top {top : Word} (h : s.stack.getLast? = some top) :
    exec .ret s = .next (s.popped.jumpTo top) := by
  simp only [exec, exec_ret, h]

theorem exec_ret_of_empty (h : s.stack = []) : exec .ret s = .next (s.raise .empty_stack) := by
  simp only [exec, exec_ret, h, List.getLast?_nil]

/-- A pop takes back the push, whatever the jump between them. -/
theorem State.popped_jumpTo_push (s : State) (a target : Word) :
    ((s.push a).jumpTo target).popped = s.jumpTo target := by
  simp only [State.popped, State.jumpTo, State.push, List.dropLast_concat]

/-- From the state a `call` leaves, `ret` goes to the return address, and the push is gone. -/
theorem exec_ret_of_pushed (a target : Word) :
    exec .ret ((s.push a).jumpTo target) = .next ((s.jumpTo target).jumpTo a) := by
  rw [exec_ret_of_top (top := a) (by simp), State.popped_jumpTo_push]

end

/-- Settles O28: with room the call pushes, `exec_ret_of_pushed` takes the push back, and two jumps move only the `pc`. -/
theorem retUndoesCall : Obligations.RetUndoesCall := by
  intro s t nnn room h
  cases (exec_call_of_room room nnn).symm.trans h
  exact ⟨_, exec_ret_of_pushed _ _, mask12_toNat _, (SameBut.refl.jumpTo _).jumpTo _⟩

/-- Settles O24: `jmp` is one jump. -/
theorem jmpSetsPcToItsAddress : Obligations.JmpSetsPcToItsAddress :=
  fun _ nnn => ⟨_, rfl, addressOf_toNat nnn, SameBut.refl.jumpTo _⟩

/-- Settles O25: with room the return address is the masked `pc + 2`; at 16 entries the fault is recorded. -/
theorem callPushesTheReturnAddress : Obligations.CallPushesTheReturnAddress := by
  refine fun s nnn => ⟨fun room => ?_, fun full => ?_⟩
  · exact ⟨_, exec_call_of_room room nnn, addressOf_toNat nnn, ⟨_, mask12_toNat _, rfl⟩,
      (SameBut.refl.setStack _).jumpTo _⟩
  · exact ⟨_, exec_call_of_full full.ge nnn, rfl⟩

/-- Settles O26: the entry at the end of the list is the top, and dropping it leaves the entries below. -/
theorem retPopsIntoPc : Obligations.RetPopsIntoPc := by
  refine fun s => ⟨fun below top hstack => ?_, fun empty => ?_⟩
  · have htop : s.stack.getLast? = some top := by rw [hstack, List.getLast?_concat]
    have hbelow : s.popped.stack = below := by rw [State.popped_stack, hstack, List.dropLast_concat]
    exact ⟨_, exec_ret_of_top htop, rfl, hbelow, (SameBut.refl.setStack _).jumpTo top⟩
  · exact ⟨_, exec_ret_of_empty empty, rfl⟩

/-- Settles O27: `jmp_v0` is one jump, to a masked sum. -/
theorem jmpV0AddsV0ToItsAddress : Obligations.JmpV0AddsV0ToItsAddress :=
  fun _ _ => ⟨_, rfl, mask12_toNat _, SameBut.refl.jumpTo _⟩

end Sys2Proof.Machine

/-! SUPPORT. The family 41_skips.md: what a skip does, said once for all six, and when a key counts as pressed. -/

namespace Sys2Proof.Machine

/-- A skip on the test `c` of the condition `p` (10_state.md R28): only the `pc` moves, by 4 or by 2 under the mask. -/
theorem State.answers_skipIf {c : Bool} {p : Prop} (hc : c = true ↔ p) (s : State) :
    Answers (.next (s.skipIf c)) fun t =>
      (p → t.pc.toNat = (s.pc.toNat + 4) % 4096) ∧ (¬ p → t.pc.toNat = (s.pc.toNat + 2) % 4096) ∧
      SameBut [.pc] [] s t := by
  refine ⟨_, rfl, fun hp => ?holds, fun hp => ?fails, SameBut.refl.advance _⟩
  case holds => rw [State.skipIf_pc, mask12_toNat, if_pos (hc.2 hp)]
  case fails => rw [State.skipIf_pc, mask12_toNat, if_neg (mt hc.1 hp)]

/-- 41_skips.md R144: a key counts as pressed when its index is below 16 and the keypad says so. -/
theorem State.keyDown_eq_true (s : State) {k : Nat} : s.keyDown k = true ↔ ∃ h : k < 16, s.keys[k] = true := by
  by_cases h : k < 16
  · rw [s.keyDown_of_lt h, exists_prop_of_true h]
  · simp [s.keyDown_of_ge (Nat.not_lt.1 h), h]

/-- Settles O29: each of the four is `State.answers_skipIf`, its test the decision of its condition. -/
theorem registerSkipsAdvanceByFourOrTwo : Obligations.RegisterSkipsAdvanceByFourOrTwo :=
  fun s _ _ _ => ⟨s.answers_skipIf decide_eq_true_iff, s.answers_skipIf decide_eq_true_iff,
    s.answers_skipIf decide_eq_true_iff, s.answers_skipIf decide_eq_true_iff⟩

/-- Settles O30: `State.keyDown_eq_true` says what `skp_v` tests, and `sknp_v` tests its negation. -/
theorem keySkipsTestTheKeyARegisterNames : Obligations.KeySkipsTestTheKeyARegisterNames := by
  intro s x pressed skips
  have down : s.keyDown (s.reg x).toNat = true ↔ pressed := s.keyDown_eq_true
  have up : (!s.keyDown (s.reg x).toNat) = true ↔ ¬ pressed := by
    rw [Bool.not_eq_true', ← Bool.not_eq_true, down]
  exact ⟨s.answers_skipIf down, s.answers_skipIf up⟩

end Sys2Proof.Machine

/-! SUPPORT. The family 42_alu.md: what one register write, and what the flag with its result, leave behind; the wrapped
result of each instruction as a number. -/

namespace Sys2Proof.Machine

/-! ### The two shapes of an ALU instruction: one register write, or the flag and then the result -/

/-- One register write and `advance(2)` (42_alu.md R160 to R165), the value written given as a number. -/
theorem State.answers_setReg {b : Byte} {v : Nat} (hb : b.toNat = v) (s : State) (x : Reg) :
    Answers (.next ((s.setReg x b).advance 2)) fun t =>
      (t.reg x).toNat = v ∧ t.pc.toNat = (s.pc.toNat + 2) % 4096 ∧ SameBut [.pc] [x] s t := by
  refine ⟨_, rfl, ?value, mask12_toNat _, (SameBut.refl.setReg x b).advance 2⟩
  case value => rw [State.reg_advance, State.reg_setReg_self, hb]

/-- The flag, then the result, and `advance(2)` (42_alu.md R166 to R170). `result` is what is said of V[x]; VF holds the
flag where V[x] is another register. -/
theorem State.answers_flagThenResult (result : Byte → Prop) {f : Bool} {flag : Nat} {b : Byte} (hb : result b)
    (hf : f.toNat = flag) (s : State) (x : Reg) :
    Answers (.next ((s.flagThenResult x f b).advance 2)) fun t =>
      result (t.reg x) ∧ (x ≠ 15 → (t.reg 15).toNat = flag) ∧
      t.pc.toNat = (s.pc.toNat + 2) % 4096 ∧ SameBut [.pc] [x, 15] s t := by
  refine ⟨_, rfl, ?result, fun hx => ?flag, mask12_toNat _, (SameBut.refl.flagThenResult x f b).advance 2⟩
  case result => rwa [State.reg_advance, State.reg_flagThenResult, if_pos rfl]
  case flag =>
    rw [State.reg_advance, State.reg_flagThenResult, if_neg hx.symm, if_pos rfl, ← hf]
    cases f <;> rfl

/-! ### Results as numbers (00_scope.md R13) -/

/-- The wrapped difference is the difference of the integers modulo 256. -/
theorem toNat_sub_eq_emod (a b : Byte) : ((a - b).toNat : Int) = ((a.toNat : Int) - b.toNat) % 256 := by
  rw [BitVec.toNat_sub]
  omega

/-- A right shift by one halves. -/
theorem toNat_ushiftRight_one (a : Byte) : (a >>> 1).toNat = a.toNat / 2 := by
  rw [BitVec.toNat_ushiftRight, Nat.shiftRight_one]

/-- A left shift by one doubles, and the bit shifted out is gone. -/
theorem toNat_shiftLeft_one (a : Byte) : (a <<< 1).toNat = a.toNat * 2 % 256 := by
  rw [BitVec.toNat_shiftLeft, Nat.shiftLeft_eq, pow_one]

/-! ### The instructions -/

/-- Settles O31: each of the six is one register write, `State.answers_setReg`. -/
theorem movesAndLogicWriteOnlyTheirDestination : Obligations.MovesAndLogicWriteOnlyTheirDestination :=
  fun s x _ _ => ⟨s.answers_setReg rfl x, s.answers_setReg (BitVec.toNat_add ..) x, s.answers_setReg rfl x,
    s.answers_setReg (BitVec.toNat_or ..) x, s.answers_setReg (BitVec.toNat_and ..) x,
    s.answers_setReg (BitVec.toNat_xor ..) x⟩

/-- Settles O32: `State.answers_flagThenResult` with the wrapped sum and the carry. -/
theorem addSetsSumAndCarry : Obligations.AddSetsSumAndCarry :=
  fun s x _ => s.answers_flagThenResult (·.toNat = _) (BitVec.toNat_add ..) (carry_toNat _ _) x

/-- Settles O33: `State.answers_flagThenResult` with the wrapped difference, either way round, and the not-borrow. -/
theorem subtractSetsDifferenceAndNotBorrow : Obligations.SubtractSetsDifferenceAndNotBorrow :=
  fun s x _ => ⟨s.answers_flagThenResult (fun d => (d.toNat : Int) = _) (toNat_sub_eq_emod _ _) (notBorrow_toNat _ _) x,
    s.answers_flagThenResult (fun d => (d.toNat : Int) = _) (toNat_sub_eq_emod _ _) (notBorrow_toNat _ _) x⟩

/-- Settles O34: `State.answers_flagThenResult` with V[x] halved and bit 0, or doubled and bit 7. -/
theorem shiftsSetResultAndShiftedOutBit : Obligations.ShiftsSetResultAndShiftedOutBit :=
  fun s x => ⟨s.answers_flagThenResult (·.toNat = _) (toNat_ushiftRight_one _) (bit0_toNat _) x,
    s.answers_flagThenResult (·.toNat = _) (toNat_shiftLeft_one _) (bit7_toNat _) x⟩

/-- Settles O36: each is one write of `I`, of the field or of the masked sum. -/
theorem indexInstructionsWriteOnlyI : Obligations.IndexInstructionsWriteOnlyI :=
  fun _ _ nnn => ⟨⟨_, rfl, addressOf_toNat nnn, mask12_toNat _, (SameBut.refl.setI _).advance 2⟩,
    ⟨_, rfl, mask12_toNat _, mask12_toNat _, (SameBut.refl.setI _).advance 2⟩⟩

end Sys2Proof.Machine

/-! SUPPORT. The family 43_random.md: the random Byte of a step, and that `rnd_v_b` uses it up. -/

namespace Sys2Proof.Machine

variable {s : State}

/-- A Byte the host presents is the random Byte of the step (43_random.md R201). -/
theorem State.randomByte_of_presented {r : Byte} (h : s.rnd = some r) : s.randomByte = r := by
  rw [State.randomByte, h, Option.getD_some]

/-- A presented Byte serves one step only (60_exceptions.md R269, log entry 3). -/
@[simp] theorem State.randomTaken_rnd : s.randomTaken.rnd = none := by
  cases h : s.rnd with
  | some r => rw [State.randomTaken_of_presented s h]
  | none => rw [State.randomTaken_of_none s h, h]

/-- 43_random.md R200, presented Byte or free value alike. -/
theorem exec_rnd_v_b_answers (s : State) (x : Reg) (kk : Byte) :
    Answers (exec (.rnd_v_b x kk) s) fun t =>
      t.reg x = s.randomByte &&& kk ∧ t.rnd = none ∧ t.pc.toNat = (s.pc.toNat + 2) % 4096 ∧
      SameBut [.pc, .random] [x] s t := by
  refine ⟨_, rfl, ?value, State.randomTaken_rnd, ?pc, (SameBut.refl.randomTaken.setReg x _).advance 2⟩
  case value => rw [State.reg_advance, State.reg_setReg_self]
  case pc => rw [State.advance_pc, mask12_toNat, State.setReg_pc, State.randomTaken_pc]

/-- Settles O37: `exec_rnd_v_b_answers`, its Byte the presented one, or else the free value. -/
theorem rndMasksTheRandomByte : Obligations.RndMasksTheRandomByte := by
  refine fun s x kk => ⟨fun r presented => ?_, fun _ => ⟨s.randomByte, exec_rnd_v_b_answers s x kk⟩⟩
  rw [← State.randomByte_of_presented presented]
  exact exec_rnd_v_b_answers s x kk

end Sys2Proof.Machine

/-! SUPPORT. The family 44_display.md: clearing, a pixel off the display, and what `drw` does in the terms of the claims. -/

namespace Sys2Proof.Machine

/-! ### Single pixels (44_display.md R210, R212) -/

theorem Display.pixel_blank {c r : Nat} (hc : c < 64) (hr : r < 32) : Display.blank.pixel c r = some false := by
  rw [Display.pixel_eq _ hc hr]
  simp only [Display.blank, Vector.getElem_replicate]

theorem Display.pixel_setPixel_self (d : Display) {c r : Nat} (hc : c < 64) (hr : r < 32) (b : Bool) :
    (d.setPixel c r b).pixel c r = some b := by
  rw [Display.pixel_setPixel, if_pos ⟨rfl, rfl⟩, Display.pixel_eq _ hc hr, Option.map_some]

/-- The draw looks a pixel up before anything else, and stops where the accessor yields nothing. -/
theorem drawPixel_of_pixel_none {v : Canvas} {px py : Nat} (h : v.disp.pixel px py = none) (bit : Bool) :
    drawPixel px py bit v = v := by
  rw [drawPixel, h]

/-- Settles O38: the display is the blank one, and only it and the `pc` are written. -/
theorem clsClearsEveryPixel : Obligations.ClsClearsEveryPixel :=
  fun _ => ⟨_, rfl, fun _ _ hc hr => Display.pixel_blank hc hr, mask12_toNat _,
    (SameBut.refl.write .display).advance 2⟩

/-- Settles O41: off the display the accessor yields nothing; on it a pixel is read and read back after a write. -/
theorem offDisplayPixelIsSkipped : Obligations.OffDisplayPixelIsSkipped := by
  refine fun v px py bit => ⟨fun off => ?_, fun hx hy => ?_⟩
  · have unread : v.disp.pixel px py = none := v.disp.pixel_none off
    exact ⟨unread, drawPixel_of_pixel_none unread bit⟩
  · exact ⟨⟨_, v.disp.pixel_eq hx hy⟩, v.disp.pixel_setPixel_self hx hy⟩

/-! ### A draw (44_display.md R211) -/

section
variable {s u : State} {x y : Reg} {n : Nat}

@[simp] theorem State.length_bytes (s : State) (a n : Nat) : (s.bytes a n).length = n := by
  simp [State.bytes]

theorem State.getD_bytes (s : State) (a : Nat) {n j : Nat} (h : j < n) (b : Byte) :
    (s.bytes a n).getD j b = s.byte (a + j) := by
  simp [State.bytes, h]

/-- The closed form of the rasterizer's loops, on the Bytes at `I`, is the sprite of the claims. -/
theorem rowsBit_bytes (s : State) (x0 y0 n c r : Nat) :
    rowsBit x0 y0 (s.bytes s.I.toNat n) c r = spriteAt s x0 y0 n c r := by
  rw [rowsBit, spriteAt, State.length_bytes]
  by_cases h : x0 ≤ c ∧ c < x0 + 8 ∧ y0 ≤ r ∧ r < y0 + n
  · have hrow : r - y0 < n := by omega
    rw [s.getD_bytes _ hrow, spriteBit_eq_getLsbD]
  · simp only [h, decide_false, Bool.false_and]

/-- The sprite depends only on `I` and on its own `n` Bytes. -/
theorem spriteAt_congr (hI : u.I = s.I) (hbytes : ∀ j, j < n → u.byte (s.I.toNat + j) = s.byte (s.I.toNat + j))
    (x0 y0 c r : Nat) : spriteAt u x0 y0 n c r = spriteAt s x0 y0 n c r := by
  rw [spriteAt, spriteAt, hI]
  by_cases h : x0 ≤ c ∧ c < x0 + 8 ∧ y0 ≤ r ∧ r < y0 + n
  · rw [hbytes _ (by omega)]
  · simp only [h, decide_false, Bool.false_and]

theorem exec_drw_inside (hn : n ≤ 15) (hs : s.spans n) :
    exec (.drw x y n) s =
      .next ((s.drawSprite (s.reg x).toNat (s.reg y).toNat (s.bytes s.I.toNat n)).advance 2) :=
  (if_neg (Nat.not_lt.2 hn)).trans (s.guardRange_inside _ hs)

/-- `drw` with a sprite of valid height that lies in memory: the display, pixel by pixel, and the flag in VF. -/
theorem exec_drw_answers (hn : n ≤ 15) (hs : s.spans n) :
    Answers (exec (.drw x y n) s) fun t =>
      (∀ c r, t.disp.pixel c r =
        (s.disp.pixel c r).map (· ^^ spriteAt s (s.reg x).toNat (s.reg y).toNat n c r)) ∧
      ∃ hit : Bool, t.reg 15 = flagByte hit ∧
        (hit = true ↔
          ∃ c r, s.disp.pixel c r = some true ∧ spriteAt s (s.reg x).toNat (s.reg y).toNat n c r = true) := by
  obtain ⟨hpixel, hhit⟩ :=
    drawRows_spec (s.reg x).toNat (s.reg y).toNat (s.bytes s.I.toNat n) ⟨s.disp, false⟩
  simp only [rowsBit_bytes, Bool.false_eq_true, false_or] at hpixel hhit
  exact ⟨_, exec_drw_inside hn hs, hpixel, _, s.reg_drawSprite _ _ _ 15, hhit⟩

end

theorem flagByte_eq_one {f : Bool} : flagByte f = 0x01#8 ↔ f = true := by
  cases f <;> decide

/-- Settles O39: `exec_drw_answers` says what is drawn, `exec_drw_inside` what is left alone. -/
theorem drwXorsTheSpriteAndReportsCollision : Obligations.DrwXorsTheSpriteAndReportsCollision := by
  intro s x y n hn hs
  obtain ⟨t, ht, hpixel, hit, hflag, hcollides⟩ := exec_drw_answers (x := x) (y := y) hn hs
  refine ⟨t, ht, fun c r old hold => ?pixel, fun h => ?collision, fun h => ?noCollision, ?rest⟩
  case pixel => rw [hpixel, hold, Option.map_some]
  case collision => rw [hflag, hcollides.2 h]; rfl
  case noCollision => rw [hflag, Bool.eq_false_iff.2 (mt hcollides.1 h)]; rfl
  case rest =>
    cases (exec_drw_inside hn hs).symm.trans ht
    exact ⟨mask12_toNat _, (SameBut.refl.drawSprite _ _ _).advance 2⟩

/-- Settles O40: the second draw has the sprite of the first (`spriteAt_congr`), so each pixel is XORed twice with one bit,
and where that bit is set the second draw meets the complement of the pixel before the first. -/
theorem drawingTwiceRestoresTheDisplay : Obligations.DrawingTwiceRestoresTheDisplay := by
  intro s t u x y n hn hs ht hdisp hI hx hy hbytes
  obtain ⟨hfirst, -⟩ := (exec_drw_answers hn hs).of_next ht
  have hu : u.spans n := by rwa [State.spans, hI]
  obtain ⟨v, hv, hsecond, hit, hflag, hcollides⟩ := exec_drw_answers (x := x) (y := y) hn hu
  simp only [hdisp, hx, hy, spriteAt_congr hI hbytes, hfirst] at hsecond hcollides
  refine ⟨v, hv, Display.ext_pixel fun c r => ?display, ?collision⟩
  case display =>
    rw [hsecond]
    cases s.disp.pixel c r <;> simp
  case collision =>
    rw [hflag, flagByte_eq_one, hcollides]
    refine exists₂_congr fun c r => and_congr_left fun hbit => ?_
    simp [hbit]

end Sys2Proof.Machine

/-! SUPPORT. The family 45_keypad_timer_misc.md: the range check of a memory transfer, what a store of consecutive Bytes and
a load of registers leave behind, and the cases of the key wait and of the font lookup. -/

namespace Sys2Proof.Machine

section
variable {s : State} {x : Reg}

/-! ### Memory transfer (45_keypad_timer_misc.md R235 to R237) -/

/-- A range that does not fit is recorded with the `pc` before any access (20_memory.md R65). -/
theorem State.guardRange_records {n : Nat} (h : ¬ s.spans n) (t : State) :
    Answers (s.guardRange n t) fun u => u.fault = some ⟨.invalid_address, s.pc⟩ :=
  ⟨_, s.guardRange_outside t (Nat.not_le.1 h), rfl⟩

/-- A store of `bs` from `I` and `advance(2)`: the Bytes are at their addresses, and nothing else moves but the `pc`. -/
theorem State.answers_store {bs : List Byte} {n : Nat} (hlen : bs.length = n) (h : s.spans n) :
    Answers (s.guardRange n ((s.setBytes s.I.toNat bs).advance 2)) fun t =>
      (s.mem.wf s.cfg → ∀ j (hj : j < bs.length), t.byte (s.I.toNat + j) = bs[j]) ∧
      SameBytesOutside s.I.toNat n s t ∧
      t.pc.toNat = (s.pc.toNat + 2) % 4096 ∧ SameBut [.pc, .memory] [] s t := by
  subst hlen
  exact ⟨_, s.guardRange_inside _ h, fun hm _ hj => s.byte_setBytes_inside hm h hj,
    fun _ houtside => s.byte_setBytes_outside houtside, mask12_toNat _, (SameBut.refl.setBytes _ _).advance 2⟩

@[simp] theorem length_bcdDigits (v : Byte) : (bcdDigits v).length = 3 := rfl

/-- The three digits fit in Bytes: none is above 9 (45_keypad_timer_misc.md R235). -/
theorem toNat_bcdDigits (v : Byte) :
    (bcdDigits v)[0].toNat = v.toNat / 100 ∧ (bcdDigits v)[1].toNat = v.toNat / 10 % 10 ∧
    (bcdDigits v)[2].toNat = v.toNat % 10 := by
  simp only [bcdDigits, List.getElem_cons_zero, List.getElem_cons_succ, BitVec.toNat_ofNat]
  omega

theorem exec_ld_v_mem_inside (h : s.spans (x.val + 1)) :
    exec (.ld_v_mem x) s = .next ((s.loadRegs x s.I.toNat).advance 2) :=
  s.guardRange_inside _ h

theorem State.reg_loadRegs_of_le (s : State) {j : Reg} (h : j ≤ x) (a : Nat) :
    (s.loadRegs x a).reg j = s.byte (a + j.val) :=
  (s.reg_loadRegs x j a).trans (if_pos h)

theorem State.reg_loadRegs_of_gt (s : State) {j : Reg} (h : x < j) (a : Nat) : (s.loadRegs x a).reg j = s.reg j :=
  (s.reg_loadRegs x j a).trans (if_neg (Nat.not_le.2 h))

/-! ### The cases of the key wait and of the font lookup (45_keypad_timer_misc.md R230, R234) -/

theorem exec_ld_v_k_of_pressed {k : Nat} (h : s.lowestKey = some k) :
    exec (.ld_v_k x) s = .next ((s.setReg x (BitVec.ofNat 8 k)).advance 2) := by
  simp only [exec, exec_ld_v_k, h]

theorem exec_ld_v_k_of_released (h : s.lowestKey = none) : exec (.ld_v_k x) s = .next s := by
  simp only [exec, exec_ld_v_k, h]

theorem exec_ld_f_v_of_digit (h : (s.reg x).toNat ≤ 0x0F) :
    exec (.ld_f_v x) s = .next ((s.setI (glyphAddress s.cfg (s.reg x).toNat)).advance 2) :=
  if_neg (Nat.not_lt.2 h)

theorem exec_ld_f_v_of_no_digit (h : 0x0F < (s.reg x).toNat) :
    exec (.ld_f_v x) s = .next (s.raise .invalid_digit) :=
  if_pos h

/-- While the font lies in memory no glyph address wraps (20_memory.md R68). -/
theorem toNat_glyphAddress {cfg : Config} (hfit : cfg.fontBase + 80 ≤ 4096) {d : Nat} (hd : d ≤ 0x0F) :
    (glyphAddress cfg d).toNat = cfg.fontBase + 5 * d := by
  have hlt : cfg.fontBase + 5 * d < 65536 := by omega
  exact toNat_ofNat16 hlt

end

/-- Settles O46: the store of the three digits, `State.answers_store`, read as numbers by `toNat_bcdDigits`. -/
theorem bcdStoreWritesThreeDigits : Obligations.BcdStoreWritesThreeDigits := by
  refine fun s x => ⟨fun inside => ?_, fun outside => State.guardRange_records outside _⟩
  obtain ⟨t, ht, stored, rest⟩ := State.answers_store (length_bcdDigits (s.reg x)) inside
  obtain ⟨hundreds, tens, ones⟩ := toNat_bcdDigits (s.reg x)
  exact ⟨t, ht, fun hm => ⟨(congrArg _ (stored hm 0 (by simp))).trans hundreds,
    (congrArg _ (stored hm 1 (by simp))).trans tens, (congrArg _ (stored hm 2 (by simp))).trans ones⟩, rest⟩

/-- Settles O47: `State.answers_store` with V[0] to V[x], the stored Bytes by `byte_of_exec_ld_mem_v`. -/
theorem registerStoreWritesTheRange : Obligations.RegisterStoreWritesTheRange := by
  refine fun s x => ⟨fun inside => ?_, fun outside => State.guardRange_records outside _⟩
  obtain ⟨t, ht, -, rest⟩ := State.answers_store (s.length_regsUpTo x) inside
  exact ⟨t, ht, fun hm _ hj => byte_of_exec_ld_mem_v hm inside ht hj, rest⟩

/-- Settles O49: the load reads, Byte by Byte, what `byte_of_exec_ld_mem_v` says the store left. -/
theorem registerLoadUndoesRegisterStore : Obligations.RegisterLoadUndoesRegisterStore := by
  intro s t u x hm hs ht hI hbytes
  have hu : u.spans (x.val + 1) := by rwa [State.spans, hI]
  refine ⟨_, exec_ld_v_mem_inside hu, fun j hj => ?_⟩
  rw [State.reg_advance, u.reg_loadRegs_of_le hj, hbytes, hI, byte_of_exec_ld_mem_v hm hs ht hj]

/-- Settles O42: the least pressed key is `lowestKey`, and with no key pressed there is none. -/
theorem waitForKeyTakesTheLeastPressedKey : Obligations.WaitForKeyTakesTheLeastPressedKey := by
  refine fun s x => ⟨fun k hk hleast => ?_, fun released => ?_⟩
  · have lowest : s.lowestKey = some k.val := s.lowestKey_eq_some.2
      ⟨k.isLt, (s.keyDown_of_lt k.isLt).trans hk,
        fun j hj => (s.keyDown_of_lt (hj.trans k.isLt)).trans (hleast ⟨j, hj.trans k.isLt⟩ hj)⟩
    have hbyte : (BitVec.ofNat 8 k.val).toNat = k.val := Nat.mod_eq_of_lt (by omega)
    rw [exec_ld_v_k_of_pressed lowest]
    exact s.answers_setReg hbyte x
  · exact exec_ld_v_k_of_released
      (s.lowestKey_eq_none.2 fun j hj => (s.keyDown_of_lt hj).trans (released ⟨j, hj⟩))

/-- Settles O44: one write each, of the register or of the timer, and `advance(2)`. -/
theorem timerInstructionsCopy : Obligations.TimerInstructionsCopy :=
  fun s x => ⟨⟨_, rfl, s.reg_setReg_self x s.DT, mask12_toNat _, (SameBut.refl.setReg x _).advance 2⟩,
    ⟨_, rfl, rfl, mask12_toNat _, (SameBut.refl.write .delay).advance 2⟩,
    ⟨_, rfl, rfl, mask12_toNat _, (SameBut.refl.write .sound).advance 2⟩⟩

/-- Settles O45: a digit gives its glyph's address by `toNat_glyphAddress`; any other value is recorded with the `pc`. -/
theorem fontLookupGivesTheGlyphAddress : Obligations.FontLookupGivesTheGlyphAddress := by
  refine fun s x => ⟨fun digit hfit => ?_, fun noDigit => ?_⟩
  · exact ⟨_, exec_ld_f_v_of_digit digit, toNat_glyphAddress hfit digit, mask12_toNat _,
      (SameBut.refl.setI _).advance 2⟩
  · exact ⟨_, exec_ld_f_v_of_no_digit noDigit, rfl⟩

/-- Settles O48: `State.loadRegs` loads the registers up to V[x] and leaves the others. -/
theorem registerLoadReadsTheRange : Obligations.RegisterLoadReadsTheRange := by
  refine fun s x => ⟨fun inside => ?_, fun outside => State.guardRange_records outside _⟩
  refine ⟨_, exec_ld_v_mem_inside inside, fun j hj => ?loaded, fun j hj => ?kept, ?pc,
    (SameBut.refl.loadRegs x _).advance 2⟩
  case loaded => rw [State.reg_advance, s.reg_loadRegs_of_le hj]
  case kept => rw [State.reg_advance, s.reg_loadRegs_of_gt hj]
  case pc => rw [State.advance_pc, mask12_toNat, State.loadRegs_pc]

end Sys2Proof.Machine

/-! SUPPORT. The family 60_exceptions.md: each way a step goes, the fault an instruction records, what the host's load
answers, and the period of the timers. -/

namespace Sys2Proof.Machine

section
variable {s t : State} {i : Instr}

/-! ### The ways a step goes (60_exceptions.md R262, R265) -/

theorem step_of_halted (h : s.fault ≠ none) : step s = .next s := by
  obtain ⟨r, hr⟩ := Option.ne_none_iff_exists'.1 h
  simp only [step, hr]

theorem step_of_undecodable (hs : s.running) (hin : s.pc.toNat + 2 ≤ 4096)
    (hd : decode (word (s.byte s.pc.toNat) (s.byte (s.pc.toNat + 1))) = none) :
    step s = .next (s.raise .invalid_instruction) := by
  simp only [step, hs, s.fetch_inside hin, hd]

theorem step_of_decoded (hs : s.running) (hin : s.pc.toNat + 2 ≤ 4096)
    (hd : decode (word (s.byte s.pc.toNat) (s.byte (s.pc.toNat + 1))) = some i) :
    step s = finishStep (exec i s) := by
  simp only [step, hs, s.fetch_inside hin, hd]

/-- The Boolean of a step (60_exceptions.md R262): the machine was running, and still is. -/
theorem advanced_iff (h : step s = .next t) : advanced s = true ↔ s.running ∧ t.running := by
  simp only [advanced, h, Bool.and_eq_true, Option.isNone_iff_eq_none]

theorem advanced_of_halted (h : s.fault ≠ none) : advanced s = false :=
  Bool.eq_false_iff.2 fun ha => h ((advanced_iff (step_of_halted h)).1 ha).1

theorem advanced_of_raise {k : FaultKind} (h : step s = .next (s.raise k)) : advanced s = false :=
  Bool.eq_false_iff.2 fun ha => nomatch ((advanced_iff h).1 ha).2

/-! ### The fault an instruction records (60_exceptions.md R268, R275) -/

/-- A check that records `k` where `c` holds and otherwise goes on without a fault is one row of the table. -/
theorem answers_tabled {o : Host.Outcome State Fault Refusal} {c : Prop} [Decidable c] {k : FaultKind}
    (hfails : c → o = .next (s.raise k)) (hpasses : ¬ c → Answers o fun t => t.fault = none) :
    Answers o fun t => t.fault = (if c then some k else none).map fun k => ⟨k, s.pc⟩ := by
  by_cases hc : c
  · exact ⟨_, hfails hc, by rw [if_pos hc]; rfl⟩
  · rw [if_neg hc]
    exact hpasses hc

/-- The row of every range check (20_memory.md R65). -/
theorem State.guardRange_tabled (n : Nat) (ht : t.running) :
    Answers (s.guardRange n t) fun u =>
      u.fault = (if 4096 < s.I.toNat + n then some FaultKind.invalid_address else none).map fun k => ⟨k, s.pc⟩ :=
  answers_tabled (s.guardRange_outside t) fun h => ⟨t, s.guardRange_inside t (Nat.not_lt.1 h), ht⟩

end

/-- Settles O7: each instruction of the table by its own check, in the table's order; the others record nothing. -/
theorem everyInstructionRecordsExactlyTheTabledFault : Obligations.EveryInstructionRecordsExactlyTheTabledFault := by
  intro s i hs
  cases i with
  | ret =>
    refine answers_tabled (fun h => exec_ret_of_empty (List.length_eq_zero_iff.1 h)) fun h => ?_
    have htop := List.getLast?_eq_some_getLast (mt List.length_eq_zero_iff.2 h)
    exact ⟨_, exec_ret_of_top htop, hs⟩
  | call nnn =>
    exact answers_tabled (exec_call_of_full · nnn) fun h => ⟨_, exec_call_of_room (Nat.not_le.1 h) nnn, hs⟩
  | drw x y n =>
    simp only [tabledFault, exec, exec_drw]
    split
    · exact ⟨_, rfl, rfl⟩
    · exact State.guardRange_tabled n hs
  | ld_f_v x => exact answers_tabled exec_ld_f_v_of_no_digit fun h => ⟨_, exec_ld_f_v_of_digit (Nat.not_lt.1 h), hs⟩
  | ld_b_v x => exact State.guardRange_tabled 3 hs
  | ld_mem_v x | ld_v_mem x => exact State.guardRange_tabled (x.val + 1) hs
  | ld_v_k x =>
    cases hkey : s.lowestKey with
    | none => exact ⟨_, exec_ld_v_k_of_released hkey, hs⟩
    | some k => exact ⟨_, exec_ld_v_k_of_pressed hkey, hs⟩
  | rnd_v_b x kk => exact ⟨_, rfl, s.randomTaken_fault.trans hs⟩
  | _ => exact ⟨_, rfl, hs⟩

/-! ### Steps -/

/-- Settles O1: a step with a decoded word is `step_of_decoded`, and `finishStep` advances the timers of a good end. -/
theorem stepRunsTheDecodedInstruction : Obligations.StepRunsTheDecodedInstruction := by
  intro s i hs hin hd
  rw [step_of_decoded hs hin hd]
  cases exec i s with
  | next t => exact (finishStep_next t).trans (apply_ite _ _ _ _)
  | fault f => rfl
  | refused r => rfl

/-- Settles O2: a present fault register is the first thing a step looks at. -/
theorem haltedStepChangesNothing : Obligations.HaltedStepChangesNothing :=
  fun _ h => ⟨step_of_halted h, advanced_of_halted h⟩

/-- Settles O5: `raise` records the `pc`, which fetch and decode leave alone. -/
theorem undecodableWordRecordsInvalidInstruction : Obligations.UndecodableWordRecordsInvalidInstruction := by
  intro s hs hin hd
  have hstep := step_of_undecodable hs hin hd
  exact ⟨advanced_of_raise hstep, _, hstep, rfl⟩

/-- Settles O9: each way of `step_answers_by_case` ends in a next state. -/
theorem everyStepAnswersANextState : Obligations.EveryStepAnswersANextState := by
  intro s
  obtain ⟨t, h, -⟩ := step_answers_by_case s
  exact ⟨t, h, trivial⟩

/-- A step with a decoded word advances exactly when its instruction is not in the fault table. -/
theorem advanced_of_decoded {s : State} {i : Instr} (hs : s.running) (hin : s.pc.toNat + 2 ≤ 4096)
    (hd : decode (word (s.byte s.pc.toNat) (s.byte (s.pc.toNat + 1))) = some i) :
    advanced s = true ↔ tabledFault s i = none := by
  obtain ⟨t, he, hfault⟩ := everyInstructionRecordsExactlyTheTabledFault s i hs
  have hstep : step s = .next (if t.fault = none then t.timerAdvance else t) := by
    rw [step_of_decoded hs hin hd, he, finishStep_next]
  have hsame : (if t.fault = none then t.timerAdvance else t).fault = t.fault := by
    split <;> rfl
  rw [advanced_iff hstep, and_iff_right hs, State.running, hsame, hfault, Option.map_eq_none_iff]

/-- Settles O8: a halted machine, a failed fetch and an undecodable word do not advance; a decoded word does as
`advanced_of_decoded` says. -/
theorem stepAdvancesExactlyOnSuccess : Obligations.StepAdvancesExactlyOnSuccess := by
  intro s
  by_cases hs : s.running
  case neg => simp [advanced_of_halted hs, hs]
  by_cases hin : s.pc.toNat + 2 ≤ 4096
  case neg =>
    have hstep := step_of_fetch_none hs (s.fetch_outside (Nat.not_le.1 hin))
    simp [advanced_of_raise hstep, hin]
  cases hd : decode (word (s.byte s.pc.toNat) (s.byte (s.pc.toNat + 1))) with
  | none => simp [advanced_of_raise (step_of_undecodable hs hin hd)]
  | some i => simp [advanced_of_decoded hs hin hd, State.running, hs, hin]

/-- Settles O43: with no key pressed the instruction answers the same state, and then only the timers advance. -/
theorem waitingStepOnlyAdvancesTheTimers : Obligations.WaitingStepOnlyAdvancesTheTimers := by
  intro s x hs hin hd released
  have hexec : exec (.ld_v_k x) s = .next s := (waitForKeyTakesTheLeastPressedKey s x).2 released
  have hstep : step s = .next s.timerAdvance := by
    rw [step_of_decoded hs hin hd, hexec, finishStep_next, if_pos hs]
  exact ⟨(advanced_of_decoded hs hin hd).2 rfl, hstep⟩

/-! ### What the host does (60_exceptions.md R266, R290) -/

theorem runWith_keeps_fault {r : FaultRecord} (inputs : List StepInput) {s : State} (h : s.fault = some r) :
    Answers (runWith inputs s) fun t => t.fault = some r := by
  induction inputs generalizing s with
  | nil => exact ⟨s, rfl, h⟩
  | cons input inputs ih =>
    have hpresent : (s.present input).fault = some r := h
    have hstep : step (s.present input) = .next (s.present input) :=
      step_of_halted (Option.ne_none_iff_exists'.2 ⟨r, hpresent⟩)
    simpa only [runWith, hstep] using ih hpresent

/-- Settles O3: a run by induction on its inputs; a load writes memory only. -/
theorem recordedFaultIsPermanent : Obligations.RecordedFaultIsPermanent := by
  refine fun s r h => ⟨fun inputs => runWith_keeps_fault inputs h, fun a image t hload => ?_⟩
  obtain ⟨-, rfl⟩ := State.loadImage_next hload
  exact h

/-- Some Byte of an image of `n` Bytes at `a` would lie in the font region. -/
def MeetsFont (cfg : Config) (a n : Nat) : Prop := ∃ j, j < n ∧ cfg.fontBase ≤ a + j ∧ a + j < cfg.fontBase + 80

theorem any_inFont_iff (cfg : Config) (a n : Nat) :
    ((List.range n).any fun j => inFont cfg (a + j)) = true ↔ MeetsFont cfg a n := by
  simp [inFont, MeetsFont]

section
variable {s : State} {a : Nat} {image : List Byte}

theorem State.loadImage_outside (h : 4096 < a + image.length) : s.loadImage a image = .refused .imageOutOfBounds := by
  have hout : ¬ inRange a image.length = true := by rw [inRange_iff]; exact Nat.not_le.2 h
  simp [State.loadImage, hout]

theorem State.loadImage_inFont (hin : a + image.length ≤ 4096) (hfont : MeetsFont s.cfg a image.length) :
    s.loadImage a image = .refused .imageInFontRegion := by
  simp only [State.loadImage, (inRange_iff _ _).2 hin, (any_inFont_iff _ _ _).2 hfont]
  rfl

theorem State.loadImage_stores (hin : a + image.length ≤ 4096) (hfont : ¬ MeetsFont s.cfg a image.length) :
    s.loadImage a image = .next (s.setBytes a image) := by
  rw [← any_inFont_iff, Bool.not_eq_true] at hfont
  simp only [State.loadImage, (inRange_iff _ _).2 hin, hfont]
  rfl

end

/-- Settles O23: the three answers of a load, and what a store of Bytes leaves behind. -/
theorem loadStoresTheImageOutsideTheFont : Obligations.LoadStoresTheImageOutsideTheFont := by
  refine fun s a image hm => ⟨fun hin hfont => ?_, State.loadImage_outside, State.loadImage_inFont⟩
  have hclear : ¬ MeetsFont s.cfg a image.length := fun ⟨j, hj, hfontj⟩ => hfont j hj hfontj
  exact ⟨_, State.loadImage_stores hin hclear, fun j hj => s.byte_setBytes_inside hm hin hj,
    fun _ houtside => s.byte_setBytes_outside houtside, SameBut.refl.setBytes a image (by simp)⟩

/-! ### The random Byte (60_exceptions.md R269) -/

/-- Settles O58: `exec_overlay` with another random Byte, or none. -/
theorem onlyRndReadsTheRandomByte : Obligations.OnlyRndReadsTheRandomByte :=
  fun i s r hi => exec_overlay { rnd := some r } i s (hrnd := fun x kk h => absurd h (hi x kk))

/-! ### Timers (60_exceptions.md R270, R272) -/

theorem SameBut.timerAdvance (s : State) : SameBut [.delay, .sound, .counters] [] s s.timerAdvance := by
  refine ⟨fun p hp => ?_, fun _ _ => rfl⟩
  cases p with
  | delay | sound | counters => simp at hp
  | memory => exact fun _ => rfl
  | random => exact ⟨rfl, rfl⟩
  | _ => rfl

/-- Settles O51: each timer with its counter by `timerTick_fires` or `timerTick_counts`. -/
theorem timerAdvanceCountsAndDecrements : Obligations.TimerAdvanceCountsAndDecrements := by
  intro s c d t
  exact ⟨fun h => timerTick_fires h s.DT, fun h => Prod.ext_iff.1 (timerTick_counts h s.DT),
    fun h => timerTick_fires h s.ST, fun h => Prod.ext_iff.1 (timerTick_counts h s.ST), SameBut.timerAdvance s⟩

/-- 60_exceptions.md R272: the least number of advances at which the counter test holds. -/
structure IsTimerPeriod (rate P : Nat) : Prop where
  pos : 1 ≤ P
  fires : rate / P ≤ 60
  counts : ∀ c, 1 ≤ c → c < P → 60 < rate / c

/-- The `n + 1`-th tick from a counter at 0, of a timer that had `d` at first. -/
theorem timerTick_of_period {rate P : Nat} (hP : IsTimerPeriod rate P) {n d : Nat} {b : Byte}
    (hb : b.toNat = d - n / P) :
    (timerTick rate (n % P) b).1 = (n + 1) % P ∧ (timerTick rate (n % P) b).2.toNat = d - (n + 1) / P := by
  have hlt : n % P < P := Nat.mod_lt n hP.pos
  have hn : n % P + P * (n / P) = n := Nat.mod_add_div n P
  by_cases hlast : n % P + 1 = P
  · obtain ⟨hdiv, hmod⟩ : (n + 1) / P = n / P + 1 ∧ (n + 1) % P = 0 :=
      (Nat.div_mod_unique hP.pos).2 ⟨by rw [Nat.mul_succ]; omega, hP.pos⟩
    obtain ⟨hcounter, htimer⟩ := timerTick_fires (rate := rate) (hlast ▸ hP.fires) b
    rw [hcounter, htimer, hdiv, hmod, hb, Nat.sub_sub]
    exact ⟨rfl, rfl⟩
  · have hless : n % P + 1 < P := by omega
    obtain ⟨hdiv, hmod⟩ : (n + 1) / P = n / P ∧ (n + 1) % P = n % P + 1 :=
      (Nat.div_mod_unique hP.pos).2 ⟨by omega, hless⟩
    rw [timerTick_counts (hP.counts _ (Nat.succ_pos _) hless) b, hdiv, hmod]
    exact ⟨rfl, hb⟩

/-- Where `n` advances from counters at 0 bring the counters and the timers. -/
theorem timerAdvance_iterate {s : State} {P : Nat} (hP : IsTimerPeriod s.cfg.masterClockRate P) (hCD : s.CD = 0)
    (hCS : s.CS = 0) (n : Nat) :
    let t := State.timerAdvance^[n] s
    t.cfg = s.cfg ∧ (t.CD = n % P ∧ t.DT.toNat = s.DT.toNat - n / P) ∧
      t.CS = n % P ∧ t.ST.toNat = s.ST.toNat - n / P := by
  induction n with
  | zero => simp [hCD, hCS]
  | succ n ih =>
    obtain ⟨hcfg, ⟨hcd, hdt⟩, hcs, hst⟩ := ih
    simp only [Function.iterate_succ_apply', State.timerAdvance_cfg, State.timerAdvance_CD, State.timerAdvance_DT,
      State.timerAdvance_CS, State.timerAdvance_ST, hcfg, hcd, hcs]
    exact ⟨trivial, timerTick_of_period hP hdt, timerTick_of_period hP hst⟩

/-- Settles O52: `timerAdvance_iterate` at `m * P + k` advances. -/
theorem timersFallEveryPAdvances : Obligations.TimersFallEveryPAdvances := by
  intro s P hCD hCS hpos hfires hcounts m k hk
  obtain ⟨hdiv, hmod⟩ : (m * P + k) / P = m ∧ (m * P + k) % P = k :=
    (Nat.div_mod_unique hpos).2 ⟨by ring, hk⟩
  obtain ⟨-, ⟨hcd, hdt⟩, hcs, hst⟩ := timerAdvance_iterate ⟨hpos, hfires, hcounts⟩ hCD hCS (m * P + k)
  rw [hmod] at hcd hcs
  rw [hdiv] at hdt hst
  exact ⟨hcd, hcs, hdt, hst⟩

end Sys2Proof.Machine

/-! SUPPORT. The family 70_reset_and_hazards.md: what construction answers, what a constructed machine holds, and a timer
written by a step whose timer advance then lowers it. -/

namespace Sys2Proof.Machine

/-! ### Construction (70_reset_and_hazards.md R300, R301) -/

theorem construct_of_admissible {cfg : Config} (h : admissible cfg = true) :
    construct cfg = .next (State.ofConfig cfg) := if_pos h

theorem construct_of_not_admissible {cfg : Config} (h : ¬ admissible cfg = true) :
    construct cfg = .refused .fontDoesNotFit := if_neg h

theorem State.reg_ofConfig (cfg : Config) (x : Reg) : (State.ofConfig cfg).reg x = 0x00#8 :=
  Vector.getElem_replicate x.isLt

theorem State.keyDown_ofConfig (cfg : Config) (k : Nat) : (State.ofConfig cfg).keyDown k = false := by
  obtain hk | hk := Nat.lt_or_ge k 16
  · exact (State.keyDown_of_lt _ hk).trans (Vector.getElem_replicate hk)
  · exact State.keyDown_of_ge _ hk

/-- Settles O20: construction answers `State.ofConfig`, whose display is the blank one. -/
theorem constructionGivesTheResetValues : Obligations.ConstructionGivesTheResetValues :=
  fun cfg hcfg => ⟨_, construct_of_admissible hcfg, State.reg_ofConfig cfg, rfl, rfl, rfl, rfl, rfl,
    fun _ _ hc hr => Display.pixel_blank hc hr, State.keyDown_ofConfig cfg, rfl, rfl, rfl, rfl⟩

/-- Settles O22: an admissible configuration has its font table inside memory. -/
theorem fontThatDoesNotFitBuildsNoMachine : Obligations.FontThatDoesNotFitBuildsNoMachine := by
  intro cfg hout
  refine construct_of_not_admissible fun hcfg => ?_
  obtain ⟨-, hfit⟩ := admissible_iff.1 hcfg
  exact Nat.not_le.2 hout hfit

/-! ### A timer written and lowered in one step (70_reset_and_hazards.md R312) -/

/-- 60_exceptions.md R262: the timers advance from the state the instruction leaves. -/
theorem step_of_exec_running {s t : State} {i : Instr} (hs : s.running) (hin : s.pc.toNat + 2 ≤ 4096)
    (hd : decode (word (s.byte s.pc.toNat) (s.byte (s.pc.toNat + 1))) = some i) (he : exec i s = .next t)
    (ht : t.running) : step s = .next t.timerAdvance := by
  rw [step_of_decoded hs hin hd, he, finishStep_next, if_pos ht]

/-- Settles O53: the timer advance finds the written value with the counter that stood before the step, so
`timerTick_fires` lowers that value and clears that counter. -/
theorem writtenTimerCanFallInTheSameStep : Obligations.WrittenTimerCanFallInTheSameStep := by
  refine fun s x hs hin => ⟨fun hd hfires => ?delay, fun hd hfires => ?sound⟩
  case delay => exact ⟨_, step_of_exec_running hs hin hd rfl hs, (timerTick_fires hfires (s.reg x)).symm⟩
  case sound => exact ⟨_, step_of_exec_running hs hin hd rfl hs, (timerTick_fires hfires (s.reg x)).symm⟩

end Sys2Proof.Machine
